-- ==== Sys2Proof/Word.lean ====
section
/-! DEFINITION. The names of levels, stimuli, variants, states and causes, and the one-bit helpers every layer uses. -/

namespace Sys2Proof

/-- An electrical level of one of the three bus lines (spec/10_state.md R38, spec/00_scope.md R8). -/
inductive Level where
  | low
  | high
  deriving DecidableEq, Repr

/-- A cell holds 1 for a high data line, 0 for a low one (spec/10_state.md R21). -/
def Level.isHigh : Level → Bool
  | .low => false
  | .high => true

/-- The other level. -/
def Level.other : Level → Level
  | .low => .high
  | .high => .low

/-- The level a bit stands for. -/
def Level.ofBit : Bool → Level
  | false => .low
  | true => .high

/-- What the world outside the block can do between two ticks (spec/00_scope.md R12, spec/10_state.md R38, R40): a falling
clock edge with the level the data line has at it, a new level of the frame-indicator or data line, a new level of
`reset`. -/
inductive Stimulus where
  | clkFall (data : Level)
  | frameLine (level : Level)
  | dataLine (level : Level)
  | reset (asserted : Bool)
  deriving DecidableEq, Repr

/-- ProtocolVariant (spec/00_scope.md R5): legacy (no header) or modern (36-bit header). No third value of
`HEADER_BITS` can be written, which is how this model refuses to instantiate one (spec/10_state.md R36, U4). -/
inductive Variant where
  | legacy
  | modern
  deriving DecidableEq, Repr

/-- `cap_state` (spec/10_state.md R27): the six states and the two reserved codes of spec/30_encoding.md R104. -/
inductive CapState where
  | idle
  | busWait
  | settle
  | capturing
  | complete
  | timedOut
  | reserved110
  | reserved111
  deriving DecidableEq, Repr

/-- The error causes (spec/60_exceptions.md R200). Codes 5, 6 and 7 are never produced and have no constructor. -/
inductive Cause where
  | none
  | captureTimeout
  | addressMismatch
  | invalidDigit
  | sentinelMismatch
  deriving DecidableEq, Repr

end Sys2Proof
end

