-- ==== Sys2Proof/Config.lean ====
section
/-! DEFINITION. What the spec leaves open: the two OPEN tick parameters, what the bus does, and the bits read in a race.
Each is a constant without a body, so that no proof can see its value. -/

namespace Sys2Proof

/-- `SETTLE_TICKS`, an OPEN parameter (spec/00_scope.md R7, R8; D8): the strap value the reset state carries.
32 bits wide, the default of `CNT_W` (D9). DESIGN CHOICE, log entry 3. -/
opaque Config.settleTicks : BitVec 32

/-- `BUDGET_TICKS`, an OPEN parameter (spec/00_scope.md R7, R8; D8), as above. DESIGN CHOICE, log entry 3. -/
opaque Config.budgetTicks : BitVec 32

/-- What the world outside does, without end: between one tick and the next, any finite number of stimuli, of any kind
("Nothing is assumed of the bus", spec/70_reset_and_hazards.md R262). The argument counts the ticks taken since the
listed schedule ended. DESIGN CHOICE, log entry 4. -/
opaque Config.betweenTicks : Nat → List Stimulus

/-- The bit that a read made while the sampler gate is open sees in a cell at or above the cursor: "any value"
(spec/93_implementation_defined.md U6). First argument: the state's count of such reads; second: the cell.
DESIGN CHOICE, log entry 8. -/
opaque Config.racedCell : Nat → Nat → Bool

end Sys2Proof
end

