-- ==== Sys2Proof/Syntax.lean ====
section
/-! DEFINITION. The operations of spec/opcode_table.json, one constructor a row, and the channels their words come in on. -/

namespace Sys2Proof

/-- The four frames of a packet as read from 68 bits, first bit first (spec/30_encoding.md R80). The field names are
the letters of the table's RESOLVE row: `a d`, `b e`, `c f`, `g h` are the address and data of frames 0 to 3. -/
structure Packet where
  a : BitVec 8
  d : BitVec 9
  b : BitVec 8
  e : BitVec 9
  c : BitVec 8
  f : BitVec 9
  g : BitVec 8
  h : BitVec 9
  deriving DecidableEq, Repr

/-- The pure functions and constant field patterns, by the name under which they are called. Their operands are
values, not dispatch words (spec/30_encoding.md R102). A field pattern is tried at the slot of one frame. -/
inductive FnChannel where
  | readAddr
  | readData
  | digit
  | stopFlag
  | resolve
  | packetAccepted
  | addrField (k : Fin 4)
  | digitField (k : Fin 3)
  | sentinelField
  deriving DecidableEq, Repr

/-- Where a word comes from: the sequencer's dispatch word (spec/30_encoding.md R100), the sampler's (R101), or the
operand word of a function or field (R102). -/
inductive Channel where
  | sequencer
  | sampler
  | fn (c : FnChannel)
  deriving DecidableEq, Repr

/-- The operations. The operands of a sequencer or sampler operation are the letters of its dispatch word that may
have either value (spec/30_encoding.md R100, R101), in the order of the word. -/
inductive Instr where
  -- sequencer, dispatch word `s2 s1 s0 F Z C B` (spec/41_packet_capture.md)
  | cycleStart (f z c b : Bool)
  | busWait (z c b : Bool)
  | busIdle (z c b : Bool)
  | settleWait (f c b : Bool)
  | arm (f c b : Bool)
  | poll (f z : Bool)
  | captureDone (f z b : Bool)
  | captureTimeout (f z : Bool)
  | decodeReport (f z c b : Bool)
  | timeoutReport (f z c b : Bool)
  | stateFault (s0 f z c b : Bool)
  -- sampler, dispatch word `E L d` (spec/40_bit_sampler.md)
  | sample (d : Bool)
  | edgeDropFull (d : Bool)
  | edgeDropOff (l d : Bool)
  -- pure functions (spec/42_frame_decoder.md, spec/43_digit_mapper.md, spec/44_rpm_resolver.md)
  | readAddr (o : BitVec 7)
  | readData (o : BitVec 7)
  | digit (t : Bool) (p : BitVec 7) (stop : Bool)
  | stopFlag (t : Bool) (p : BitVec 7) (stop : Bool)
  | resolve (pkt : Packet)
  | packetAccepted (u : Bool) (p : BitVec 7) (x : Bool) (v : Bool) (q : BitVec 7) (y : Bool)
      (w : Bool) (r : BitVec 7) (stop : Bool)
  -- constant field patterns (spec/30_encoding.md R87, R88, R90)
  | addrFrame0
  | addrFrame1
  | addrFrame2
  | addrFrame3
  | digit0 (t stop : Bool)
  | digit1 (t stop : Bool)
  | digit2 (t stop : Bool)
  | digit3 (t stop : Bool)
  | digit4 (t stop : Bool)
  | digit5 (t stop : Bool)
  | digit6 (t stop : Bool)
  | digit7 (t stop : Bool)
  | digit8 (t stop : Bool)
  | digit9 (t stop : Bool)
  | sentinel
  deriving DecidableEq, Repr

end Sys2Proof
end

