-- ==== Sys2Proof/Machine/Tables.lean ====
section
/-! DEFINITION. The constant tables of the spec (variant widths, addresses, digit patterns, sentinel, weights, codes)
and the bit layout of a data value. They stand here, under Machine, so that the decoder and the machine share them. -/

namespace Sys2Proof.Machine

/-- `HEADER_BITS` (spec/00_scope.md R5). -/
def headerBits : Variant → Nat
  | .legacy => 0
  | .modern => 36

/-- `EXPECTED_BITS = HEADER_BITS + 68` (spec/00_scope.md R6). -/
def expectedBits (v : Variant) : Nat := headerBits v + 68

/-- The address frame `k` must carry, `0xA0 + k` (spec/30_encoding.md R87). -/
def expectedAddress (k : Fin 4) : BitVec 8 := 0xA0#8 + BitVec.ofNat 8 k.val

/-- The sentinel (spec/30_encoding.md R90). -/
def sentinelValue : BitVec 9 := 0x020#9

/-- The digit table, segment pattern to numeral (spec/30_encoding.md R88). -/
def digitTable : List (BitVec 7 × BitVec 4) :=
  [(0x7D#7, 0#4), (0x05#7, 1#4), (0x6B#7, 2#4), (0x4F#7, 3#4), (0x17#7, 4#4),
   (0x5E#7, 5#4), (0x7E#7, 6#4), (0x0D#7, 7#4), (0x7F#7, 8#4), (0x5F#7, 9#4)]

/-- The numeral of a segment pattern, `none` for the 118 patterns outside the table (spec/30_encoding.md R103). -/
def digitOfPattern (p : BitVec 7) : Option (BitVec 4) := digitTable.lookup p

/-- Positional weights of frames 0, 1 and 2 (spec/30_encoding.md R91). -/
def weight : Fin 3 → Nat
  | 0 => 1000
  | 1 => 100
  | 2 => 10

/-- The 9-bit data value `t p6..p0 s` (spec/30_encoding.md R82). -/
def dataValue (t : Bool) (p : BitVec 7) (stop : Bool) : BitVec 9 :=
  (BitVec.ofBool t ++ p) ++ BitVec.ofBool stop

/-- The segment pattern of a data value, `(d >> 1) & 0x7F` (spec/30_encoding.md R86). -/
def patternOf (d : BitVec 9) : BitVec 7 := ((d >>> 1) &&& 0x7F#9).setWidth 7

/-- The 3-bit code of a state (spec/10_state.md R27). -/
def stateCode : CapState → BitVec 3
  | .idle => 0b000#3
  | .busWait => 0b001#3
  | .settle => 0b010#3
  | .capturing => 0b011#3
  | .complete => 0b100#3
  | .timedOut => 0b101#3
  | .reserved110 => 0b110#3
  | .reserved111 => 0b111#3

/-- The state a 3-bit code names (spec/10_state.md R27). -/
def stateOfCode (n : Nat) : CapState :=
  match n with
  | 0 => .idle
  | 1 => .busWait
  | 2 => .settle
  | 3 => .capturing
  | 4 => .complete
  | 5 => .timedOut
  | 6 => .reserved110
  | _ => .reserved111

/-- The 3-bit code of a cause (spec/60_exceptions.md R200). -/
def causeCode : Cause → BitVec 3
  | .none => 0#3
  | .captureTimeout => 1#3
  | .addressMismatch => 2#3
  | .invalidDigit => 3#3
  | .sentinelMismatch => 4#3

end Sys2Proof.Machine
end

