-- ==== Sys2Proof/WellFormed.lean ====
section
/-! DEFINITION. Which operations the spec's encodings admit. Operand widths are in the types; the one check left is
that an accepted packet's three patterns are in the digit table (spec/44_rpm_resolver.md R190). -/

namespace Sys2Proof

/-- The encoding admits the operation with these operands. -/
def Instr.wellFormed : Instr → Bool
  | .packetAccepted _ p _ _ q _ _ r _ =>
    (Machine.digitOfPattern p).isSome && (Machine.digitOfPattern q).isSome && (Machine.digitOfPattern r).isSome
  | .cycleStart _ _ _ _ | .busWait _ _ _ | .busIdle _ _ _ | .settleWait _ _ _ | .arm _ _ _ | .poll _ _
  | .captureDone _ _ _ | .captureTimeout _ _ | .decodeReport _ _ _ _ | .timeoutReport _ _ _ _
  | .stateFault _ _ _ _ _ | .sample _ | .edgeDropFull _ | .edgeDropOff _ _ | .readAddr _ | .readData _
  | .digit _ _ _ | .stopFlag _ _ _ | .resolve _ | .addrFrame0 | .addrFrame1 | .addrFrame2 | .addrFrame3
  | .digit0 _ _ | .digit1 _ _ | .digit2 _ _ | .digit3 _ _ | .digit4 _ _ | .digit5 _ _ | .digit6 _ _
  | .digit7 _ _ | .digit8 _ _ | .digit9 _ _ | .sentinel => true

end Sys2Proof
end

