-- ==== Sys2Proof/Decode.lean ====
section
/-! DEFINITION. The decoder, total on every word of every channel and rejecting by name, and after it the encoder.
A word is one number whose bit 0 is the least significant, the rightmost letter of the table's encodings. -/

namespace Sys2Proof

open Machine

/-- Why a word is no operation of its channel. -/
inductive Reject where
  /-- The word has bits above the channel's width: no encoding of the table is that wide. -/
  | wordTooWide (width w : Nat)
  /-- A field that fails the check of its slot: the decode error the spec names for it
  (spec/44_rpm_resolver.md R181 to R183). -/
  | checkFailed (cause : Cause) (frame : Fin 4)
  /-- 68 frame bits outside the accepted set (spec/44_rpm_resolver.md R190). -/
  | notAccepted
  deriving DecidableEq, Repr

/-- The width of a channel's words in bits (spec/30_encoding.md R100 to R102). -/
def Channel.width : Channel → Nat
  | .sequencer => 7
  | .sampler => 3
  | .fn .readAddr => 7
  | .fn .readData => 7
  | .fn .digit => 9
  | .fn .stopFlag => 9
  | .fn .resolve => 68
  | .fn .packetAccepted => 68
  | .fn (.addrField _) => 8
  | .fn (.digitField _) => 9
  | .fn .sentinelField => 9

/-- The sequencer's eleven operations, from the dispatch word `s2 s1 s0 F Z C B` (spec/30_encoding.md R100). -/
def decodeSequencer (w : Nat) : Instr :=
  let f := w.testBit 3
  let z := w.testBit 2
  let c := w.testBit 1
  let b := w.testBit 0
  match w / 16 with
  | 0 => .cycleStart f z c b
  | 1 => if f then .busWait z c b else .busIdle z c b
  | 2 => if z then .arm f c b else .settleWait f c b
  | 3 => if c then .captureDone f z b else if b then .captureTimeout f z else .poll f z
  | 4 => .decodeReport f z c b
  | 5 => .timeoutReport f z c b
  | _ => .stateFault (w.testBit 4) f z c b

/-- The sampler's three operations, from the dispatch word `E L d` (spec/30_encoding.md R101). -/
def decodeSampler (w : Nat) : Instr :=
  let l := w.testBit 1
  let d := w.testBit 0
  if w.testBit 2 then (if l then .sample d else .edgeDropFull d) else .edgeDropOff l d

/-- The eight fields of 68 frame bits, first bit most significant (spec/30_encoding.md R80). -/
def splitPacket (w : Nat) : Packet where
  a := BitVec.ofNat 8 (w / 2 ^ 60)
  d := BitVec.ofNat 9 (w / 2 ^ 51)
  b := BitVec.ofNat 8 (w / 2 ^ 43)
  e := BitVec.ofNat 9 (w / 2 ^ 34)
  c := BitVec.ofNat 8 (w / 2 ^ 26)
  f := BitVec.ofNat 9 (w / 2 ^ 17)
  g := BitVec.ofNat 8 (w / 2 ^ 9)
  h := BitVec.ofNat 9 w

/-- Bits `t`, `p6..p0`, `s` of a data word (spec/30_encoding.md R82). -/
def fieldT (d : BitVec 9) : Bool := d.getLsbD 8

/-- Bit 0 of a data word (spec/30_encoding.md R82). -/
def fieldS (d : BitVec 9) : Bool := d.getLsbD 0

/-- The digit-frame pattern a data word carries (spec/30_encoding.md R88). -/
def decodeDigitField (d : BitVec 9) : Option Instr :=
  match digitOfPattern (patternOf d) with
  | some n =>
    match n.toNat with
    | 0 => some (.digit0 (fieldT d) (fieldS d))
    | 1 => some (.digit1 (fieldT d) (fieldS d))
    | 2 => some (.digit2 (fieldT d) (fieldS d))
    | 3 => some (.digit3 (fieldT d) (fieldS d))
    | 4 => some (.digit4 (fieldT d) (fieldS d))
    | 5 => some (.digit5 (fieldT d) (fieldS d))
    | 6 => some (.digit6 (fieldT d) (fieldS d))
    | 7 => some (.digit7 (fieldT d) (fieldS d))
    | 8 => some (.digit8 (fieldT d) (fieldS d))
    | 9 => some (.digit9 (fieldT d) (fieldS d))
    | _ => none
  | none => none

/-- The address pattern of frame `k` (spec/30_encoding.md R87). -/
def addressPattern (k : Fin 4) : Instr :=
  match k with
  | 0 => .addrFrame0
  | 1 => .addrFrame1
  | 2 => .addrFrame2
  | 3 => .addrFrame3

/-- The accepted-packet pattern (spec/44_rpm_resolver.md R190). -/
def decodeAccepted (k : Packet) : Option Instr :=
  if k.a = expectedAddress 0 ∧ k.b = expectedAddress 1 ∧ k.c = expectedAddress 2 ∧ k.g = expectedAddress 3 ∧
      k.h = sentinelValue ∧ (digitOfPattern (patternOf k.d)).isSome ∧ (digitOfPattern (patternOf k.e)).isSome ∧
      (digitOfPattern (patternOf k.f)).isSome then
    some (.packetAccepted (fieldT k.d) (patternOf k.d) (fieldS k.d) (fieldT k.e) (patternOf k.e) (fieldS k.e)
      (fieldT k.f) (patternOf k.f) (fieldS k.f))
  else none

/-- A function's or field's operation from its operand word (spec/30_encoding.md R102, R87, R88, R90). -/
def decodeFn (ch : FnChannel) (w : Nat) : Except Reject Instr :=
  let d := BitVec.ofNat 9 w
  match ch with
  | .readAddr => .ok (.readAddr (BitVec.ofNat 7 w))
  | .readData => .ok (.readData (BitVec.ofNat 7 w))
  | .digit => .ok (.digit (fieldT d) (patternOf d) (fieldS d))
  | .stopFlag => .ok (.stopFlag (fieldT d) (patternOf d) (fieldS d))
  | .resolve => .ok (.resolve (splitPacket w))
  | .packetAccepted =>
    match decodeAccepted (splitPacket w) with
    | some i => .ok i
    | none => .error .notAccepted
  | .addrField k =>
    if BitVec.ofNat 8 w = expectedAddress k then .ok (addressPattern k)
    else .error (.checkFailed .addressMismatch k)
  | .digitField k =>
    match decodeDigitField d with
    | some i => .ok i
    | none => .error (.checkFailed .invalidDigit k.castSucc)
  | .sentinelField =>
    if d = sentinelValue then .ok .sentinel else .error (.checkFailed .sentinelMismatch 3)

/-- The operation that a word stands for on a channel. Total: a word wider than its channel is rejected by name. -/
def decode (ch : Channel) (w : Nat) : Except Reject Instr :=
  if w < 2 ^ ch.width then
    match ch with
    | .sequencer => .ok (decodeSequencer w)
    | .sampler => .ok (decodeSampler w)
    | .fn c => decodeFn c w
  else .error (.wordTooWide ch.width w)

/-! The encoder, written from the fixed bits of spec/opcode_table.json. -/

/-- A channel and a word on it. -/
structure CodeWord where
  channel : Channel
  bits : Nat
  deriving DecidableEq, Repr

/-- A sequencer word: fixed bits, then the letters `f z c b` at bits 3 to 0. -/
def sequencerBits (fixed : Nat) (f z c b : Bool) : Nat :=
  fixed + 8 * f.toNat + 4 * z.toNat + 2 * c.toNat + b.toNat

/-- A data word `t`, seven fixed pattern bits, `s`. -/
def dataBits (t : Bool) (p : Nat) (stop : Bool) : Nat := 256 * t.toNat + 2 * p + stop.toNat

/-- 68 frame bits from their eight fields (spec/30_encoding.md R80). -/
def joinPacket (k : Packet) : Nat :=
  k.a.toNat * 2 ^ 60 + k.d.toNat * 2 ^ 51 + k.b.toNat * 2 ^ 43 + k.e.toNat * 2 ^ 34 +
  k.c.toNat * 2 ^ 26 + k.f.toNat * 2 ^ 17 + k.g.toNat * 2 ^ 9 + k.h.toNat

/-- The packet of the PACKET_ACCEPTED row's string (spec/opcode_table.json). -/
def acceptedPacket (u : Bool) (p : BitVec 7) (x v : Bool) (q : BitVec 7) (y w : Bool) (r : BitVec 7)
    (stop : Bool) : Packet where
  a := 0b10100000#8
  d := dataValue u p x
  b := 0b10100001#8
  e := dataValue v q y
  c := 0b10100010#8
  f := dataValue w r stop
  g := 0b10100011#8
  h := 0b000100000#9

/-- The word of an operation, and the channel it comes in on. A digit pattern may stand in frame 0, 1 or 2
(spec/30_encoding.md R88): frame 0 is written here, and `decodeFn` reads the same pattern at the other two. -/
def encode : Instr → CodeWord
  | .cycleStart f z c b => ⟨.sequencer, sequencerBits 0x00 f z c b⟩
  | .busWait z c b => ⟨.sequencer, sequencerBits 0x10 true z c b⟩
  | .busIdle z c b => ⟨.sequencer, sequencerBits 0x10 false z c b⟩
  | .settleWait f c b => ⟨.sequencer, sequencerBits 0x20 f false c b⟩
  | .arm f c b => ⟨.sequencer, sequencerBits 0x20 f true c b⟩
  | .poll f z => ⟨.sequencer, sequencerBits 0x30 f z false false⟩
  | .captureDone f z b => ⟨.sequencer, sequencerBits 0x30 f z true b⟩
  | .captureTimeout f z => ⟨.sequencer, sequencerBits 0x30 f z false true⟩
  | .decodeReport f z c b => ⟨.sequencer, sequencerBits 0x40 f z c b⟩
  | .timeoutReport f z c b => ⟨.sequencer, sequencerBits 0x50 f z c b⟩
  | .stateFault s0 f z c b => ⟨.sequencer, sequencerBits (0x60 + 16 * s0.toNat) f z c b⟩
  | .sample d => ⟨.sampler, 0b110 + d.toNat⟩
  | .edgeDropFull d => ⟨.sampler, 0b100 + d.toNat⟩
  | .edgeDropOff l d => ⟨.sampler, 2 * l.toNat + d.toNat⟩
  | .readAddr o => ⟨.fn .readAddr, o.toNat⟩
  | .readData o => ⟨.fn .readData, o.toNat⟩
  | .digit t p stop => ⟨.fn .digit, dataBits t p.toNat stop⟩
  | .stopFlag t p stop => ⟨.fn .stopFlag, dataBits t p.toNat stop⟩
  | .resolve k => ⟨.fn .resolve, joinPacket k⟩
  | .packetAccepted u p x v q y w r stop =>
    ⟨.fn .packetAccepted, joinPacket (acceptedPacket u p x v q y w r stop)⟩
  | .addrFrame0 => ⟨.fn (.addrField 0), 0b10100000⟩
  | .addrFrame1 => ⟨.fn (.addrField 1), 0b10100001⟩
  | .addrFrame2 => ⟨.fn (.addrField 2), 0b10100010⟩
  | .addrFrame3 => ⟨.fn (.addrField 3), 0b10100011⟩
  | .digit0 t stop => ⟨.fn (.digitField 0), dataBits t 0b1111101 stop⟩
  | .digit1 t stop => ⟨.fn (.digitField 0), dataBits t 0b0000101 stop⟩
  | .digit2 t stop => ⟨.fn (.digitField 0), dataBits t 0b1101011 stop⟩
  | .digit3 t stop => ⟨.fn (.digitField 0), dataBits t 0b1001111 stop⟩
  | .digit4 t stop => ⟨.fn (.digitField 0), dataBits t 0b0010111 stop⟩
  | .digit5 t stop => ⟨.fn (.digitField 0), dataBits t 0b1011110 stop⟩
  | .digit6 t stop => ⟨.fn (.digitField 0), dataBits t 0b1111110 stop⟩
  | .digit7 t stop => ⟨.fn (.digitField 0), dataBits t 0b0001101 stop⟩
  | .digit8 t stop => ⟨.fn (.digitField 0), dataBits t 0b1111111 stop⟩
  | .digit9 t stop => ⟨.fn (.digitField 0), dataBits t 0b1011111 stop⟩
  | .sentinel => ⟨.fn .sentinelField, 0b000100000⟩

/-! The opcode table's rows as the host numbers them. -/

/-- One row of the sequencer's part of spec/opcode_table.json: mnemonic, match and mask. -/
structure DispatchRow where
  mnemonic : String
  fixed : Nat
  mask : Nat
  deriving DecidableEq, Repr

/-- The eleven SEQ7 rows of spec/opcode_table.json. -/
def sequencerRows : List DispatchRow :=
  [⟨"CYCLE_START", 0x00, 0x70⟩, ⟨"BUS_WAIT", 0x18, 0x78⟩, ⟨"BUS_IDLE", 0x10, 0x78⟩, ⟨"SETTLE_WAIT", 0x20, 0x74⟩,
   ⟨"ARM", 0x24, 0x74⟩, ⟨"POLL", 0x30, 0x73⟩, ⟨"CAPTURE_DONE", 0x32, 0x72⟩, ⟨"CAPTURE_TIMEOUT", 0x31, 0x73⟩,
   ⟨"DECODE_REPORT", 0x40, 0x70⟩, ⟨"TIMEOUT_REPORT", 0x50, 0x70⟩, ⟨"STATE_FAULT", 0x60, 0x60⟩]

/-- The three SMP3 rows of spec/opcode_table.json. -/
def samplerRows : List DispatchRow :=
  [⟨"SAMPLE", 6, 6⟩, ⟨"EDGE_DROP_FULL", 4, 6⟩, ⟨"EDGE_DROP_OFF", 0, 4⟩]

/-- A word carries a row's fixed bits. -/
def DispatchRow.matches (r : DispatchRow) (w : Nat) : Bool := w &&& r.mask == r.fixed

/-- The mnemonic of an operation in spec/opcode_table.json. -/
def Instr.mnemonic : Instr → String
  | .cycleStart _ _ _ _ => "CYCLE_START"
  | .busWait _ _ _ => "BUS_WAIT"
  | .busIdle _ _ _ => "BUS_IDLE"
  | .settleWait _ _ _ => "SETTLE_WAIT"
  | .arm _ _ _ => "ARM"
  | .poll _ _ => "POLL"
  | .captureDone _ _ _ => "CAPTURE_DONE"
  | .captureTimeout _ _ => "CAPTURE_TIMEOUT"
  | .decodeReport _ _ _ _ => "DECODE_REPORT"
  | .timeoutReport _ _ _ _ => "TIMEOUT_REPORT"
  | .stateFault _ _ _ _ _ => "STATE_FAULT"
  | .sample _ => "SAMPLE"
  | .edgeDropFull _ => "EDGE_DROP_FULL"
  | .edgeDropOff _ _ => "EDGE_DROP_OFF"
  | .readAddr _ => "READ_ADDR"
  | .readData _ => "READ_DATA"
  | .digit _ _ _ => "DIGIT"
  | .stopFlag _ _ _ => "STOPFLAG"
  | .resolve _ => "RESOLVE"
  | .packetAccepted _ _ _ _ _ _ _ _ _ => "PACKET_ACCEPTED"
  | .addrFrame0 => "ADDR_FRAME0"
  | .addrFrame1 => "ADDR_FRAME1"
  | .addrFrame2 => "ADDR_FRAME2"
  | .addrFrame3 => "ADDR_FRAME3"
  | .digit0 _ _ => "DIGIT_0"
  | .digit1 _ _ => "DIGIT_1"
  | .digit2 _ _ => "DIGIT_2"
  | .digit3 _ _ => "DIGIT_3"
  | .digit4 _ _ => "DIGIT_4"
  | .digit5 _ _ => "DIGIT_5"
  | .digit6 _ _ => "DIGIT_6"
  | .digit7 _ _ => "DIGIT_7"
  | .digit8 _ _ => "DIGIT_8"
  | .digit9 _ _ => "DIGIT_9"
  | .sentinel => "SENTINEL"

/-- An 8-bit table word does not say which agent or function it belongs to. The choice made here, so that every row
with fixed bits has a word that reaches it: addresses 0xA0 to 0xA3 are address fields; 1 to 7 are sampler words; the
other words below 0x80 are sequencer words. DESIGN CHOICE, log entry 5. -/
def byteChannel (w : Nat) : Option Channel :=
  match w with
  | 0xA0 => some (.fn (.addrField 0))
  | 0xA1 => some (.fn (.addrField 1))
  | 0xA2 => some (.fn (.addrField 2))
  | 0xA3 => some (.fn (.addrField 3))
  | _ => if 1 ≤ w ∧ w < 8 then some .sampler else if w < 0x80 then some .sequencer else none

/-- A 9-bit table word: a constant field pattern where one fits, else the operand of DIGIT. DESIGN CHOICE, log
entry 5. -/
def dataChannel (w : Nat) : Option Channel :=
  if 2 ^ 9 ≤ w then none
  else if (decodeDigitField (BitVec.ofNat 9 w)).isSome then some (.fn (.digitField 0))
  else if w = sentinelValue.toNat then some (.fn .sentinelField)
  else some (.fn .digit)

/-- A 68-bit table word: the accepted-packet pattern where it fits, else the operand of RESOLVE. DESIGN CHOICE, log
entry 5. -/
def packetChannel (w : Nat) : Option Channel :=
  if 2 ^ 68 ≤ w then none
  else if (decodeAccepted (splitPacket w)).isSome then some (.fn .packetAccepted)
  else some (.fn .resolve)

/-- The channel read from a table word of `nbits` bits (the row's width in whole bytes, or the exact width). -/
def tableChannel (nbits w : Nat) : Option Channel :=
  match nbits with
  | 3 => some .sampler
  | 7 => some .sequencer
  | 8 => byteChannel w
  | 9 => dataChannel w
  | 16 => dataChannel w
  | 68 => packetChannel w
  | 72 => packetChannel w
  | _ => none

/-- The operation that a word of spec/opcode_table.json decodes to. -/
def decodeTableWord (nbits w : Nat) : Option Instr :=
  match tableChannel nbits w with
  | none => none
  | some ch =>
    match decode ch w with
    | .ok i => some i
    | .error _ => none

end Sys2Proof
end

