-- ==== Sys2Proof/Machine/State.lean ====
section
/-! DEFINITION. The machine's state as plain data, the reasons a step can stop, and the state after reset. -/

namespace Sys2Proof.Machine

/-- The BitBuffer (spec/20_memory.md): cell address and its content as a byte of value 1, in one canonical form.
A cell that is not listed reads as 0 (log entry 1). -/
abbrev Memory := List Host.Cell

/-- The output record (spec/10_state.md R42). -/
structure Report where
  err : Bool
  rpm : BitVec 14
  cause : Cause
  frame : Fin 4
  stop : Bool
  deriving DecidableEq, Repr

/-- The straps (spec/10_state.md R36; spec/00_scope.md R8): constant inputs that no operation writes. -/
structure Straps where
  variant : Variant
  settleTicks : Nat
  budgetTicks : Nat
  cntW : Nat
  frameActiveLevel : Level
  deriving DecidableEq, Repr

/-- One atomic step of one agent, or a change of an input (spec/00_scope.md R12, R13). A rising clock edge is no
event (spec/10_state.md R38). -/
inductive Event where
  /-- `T`: one sequencer tick (spec/00_scope.md R14). -/
  | tick
  /-- `C0`, `C1`: a falling clock edge with the data line at this level (spec/30_encoding.md R108). -/
  | clkFall (data : Level)
  /-- `F+`, `F-`: the frame-indicator line takes this level (spec/10_state.md R38). -/
  | frameLine (level : Level)
  /-- The data line takes this level with no clock edge (spec/00_scope.md R12). -/
  | dataLine (level : Level)
  /-- The `reset` input is asserted or deasserted (spec/70_reset_and_hazards.md R240). -/
  | reset (asserted : Bool)
  /-- A pure function, or a field pattern, is evaluated by itself on an operand word (spec/30_encoding.md R102).
  It touches nothing of the hardware's state (log entry 7). -/
  | eval (fn : FnChannel) (w : Nat)
  deriving DecidableEq, Repr

/-- The value of a pure function or field pattern evaluated by itself. -/
inductive FnResult where
  /-- READ_ADDR (spec/42_frame_decoder.md R150). -/
  | addr (v : BitVec 8)
  /-- READ_DATA (spec/42_frame_decoder.md R155). -/
  | data (v : BitVec 9)
  /-- DIGIT (spec/43_digit_mapper.md R165). -/
  | digit (valid : Bool) (n : BitVec 4)
  /-- STOPFLAG (spec/43_digit_mapper.md R172). -/
  | stop (b : Bool)
  /-- RESOLVE, PACKET_ACCEPTED (spec/44_rpm_resolver.md R180, R190). -/
  | report (r : Report)
  /-- The address check of frame `k` passed (spec/44_rpm_resolver.md R181). -/
  | addressMatch (k : Fin 4)
  /-- The sentinel check passed (spec/44_rpm_resolver.md R183). -/
  | sentinelMatch
  /-- A field failed the check of its slot (spec/44_rpm_resolver.md R181 to R183). -/
  | decodeError (cause : Cause) (frame : Fin 4)
  /-- The frame bits are outside the accepted set (spec/44_rpm_resolver.md R190). -/
  | notAccepted
  deriving DecidableEq, Repr

/-- The machine. `events`, `freeTicks`, `result` and `raceCount` are the MODEL's own fields, the rest are the spec's. -/
structure State where
  /-- The BitBuffer (spec/10_state.md R20). -/
  buf : Memory
  /-- CaptureCursor, 7 bits (spec/10_state.md R24). -/
  cursor : BitVec 7
  /-- The sequencer's state (spec/10_state.md R27). -/
  capState : CapState
  /-- The sampler's enable gate (spec/10_state.md R30). -/
  samplerEn : Bool
  /-- The settle counter, an unbounded natural as D9 allows (spec/10_state.md R33). -/
  settleCnt : Nat
  /-- The budget counter, likewise (spec/10_state.md R34). -/
  budgetCnt : Nat
  /-- The level of the `reset` input (spec/70_reset_and_hazards.md R240). -/
  resetAsserted : Bool
  /-- The electrical level of the frame-indicator line (spec/10_state.md R38). -/
  frameLine : Level
  /-- The level of the data line, `data_in` (spec/10_state.md R38). -/
  dataLine : Level
  /-- The straps (spec/10_state.md R36). -/
  straps : Straps
  /-- The output sequence seen by the host, oldest first (spec/00_scope.md R10, spec/10_state.md R42). -/
  reports : List Report
  /-- The model's own: the steps the agents take next, in order; after them the bus is free (log entry 4). -/
  events : List Event
  /-- The model's own: how many ticks, with the bus activity before each, have been taken from the free bus. -/
  freeTicks : Nat
  /-- The model's own: the value of the last pure function evaluated by itself. -/
  result : Option FnResult
  /-- The model's own: how many reads have raced with an open gate, so that each sees fresh free values. -/
  raceCount : Nat
  deriving DecidableEq, Repr

/-- The block itself has no fault: every error of the spec is a Report (spec/60_exceptions.md R200 to R202). -/
inductive Fault where
  /-- Raised by the cell write of Machine/Ops.lean at an address that does not exist, `CAPACITY` or above
  (spec/20_memory.md R55). Safe. The sampler's guard keeps every step from raising it. -/
  | cellOutOfRange (addr : Nat)
  deriving DecidableEq, Repr

/-- Why a step gives no meaning. -/
inductive Refusal where
  /-- Raised by exec for an instruction that has no meaning yet. Safe. No arm raises it. -/
  | notModelled (mnemonic : String)
  /-- Raised by a sequencer or sampler operation run in a state whose dispatch word selects another one: the spec
  gives the operation an effect only under its `when` (spec/41_packet_capture.md R120). Safe. No step raises it. -/
  | notDispatched (mnemonic : String)
  /-- Raised by READ_ADDR and READ_DATA on an offset outside the precondition: "it is refused"
  (spec/42_frame_decoder.md R159, D17). Safe. -/
  | offsetOutOfRange (offset : BitVec 7)
  /-- Raised by an evaluation event whose word has bits above the operand's width: no such call exists
  (spec/30_encoding.md R102). Safe. -/
  | operandTooWide (width w : Nat)
  deriving DecidableEq, Repr

/-- The straps the reset state carries: legacy, the OPEN tick parameters, 32 bits, low
(spec/00_scope.md R8; log entry 3). -/
def Straps.default : Straps where
  variant := .legacy
  settleTicks := Config.settleTicks.toNat
  budgetTicks := Config.budgetTicks.toNat
  cntW := 32
  frameActiveLevel := .low

/-- The machine right after reset (spec/70_reset_and_hazards.md R241). The two line levels are inputs, to which the
spec gives no reset value: frame indicator deasserted (high), data low (log entry 2). No event is listed. -/
def State.reset : State where
  buf := []
  cursor := 0#7
  capState := .idle
  samplerEn := false
  settleCnt := 0
  budgetCnt := 0
  resetAsserted := false
  frameLine := .high
  dataLine := .low
  straps := Straps.default
  reports := []
  events := []
  freeTicks := 0
  result := none
  raceCount := 0

end Sys2Proof.Machine
end

