-- ==== Sys2Proof/Machine/Ops.lean ====
section
/-! DEFINITION. The named operations over memory and registers, the updates of one field each, the entry of an error
(and of reset), all from the rules they cite. -/

namespace Sys2Proof.Machine

/-! ## The BitBuffer as sparse data -/

/-- What a cell that is not listed reads as: the reset content, 0 (spec/70_reset_and_hazards.md R241). -/
def Memory.unlisted : BitVec 8 := 0#8

/-- The byte that stands for a one-bit cell. -/
def Memory.byteOf (b : Bool) : BitVec 8 := if b then 1#8 else 0#8

/-- The content of a cell as a byte. -/
def Memory.byteAt : Memory → Nat → BitVec 8
  | [], _ => Memory.unlisted
  | c :: m, a => if c.1 = a then c.2 else Memory.byteAt m a

/-- `buf[a]`, one bit (spec/00_scope.md R10). -/
def Memory.bit (m : Memory) (a : Nat) : Bool := (Memory.byteAt m a).getLsbD 0

/-- The memory without an entry for `a`. -/
def Memory.erase (m : Memory) (a : Nat) : Memory := m.filter fun c => c.1 != a

/-- The memory with an entry put before the first higher address. -/
def Memory.insert (a : Nat) (v : BitVec 8) : Memory → Memory
  | [] => [(a, v)]
  | c :: m => if a < c.1 then (a, v) :: c :: m else c :: Memory.insert a v m

/-- `buf[a] <- v`, keeping the canonical form. -/
def Memory.write (m : Memory) (a : Nat) (v : BitVec 8) : Memory :=
  if v = Memory.unlisted then Memory.erase m a else Memory.insert a v (Memory.erase m a)

/-- `MemClear()`: every cell 0 (spec/00_scope.md R10). -/
def Memory.cleared : Memory := []

/-- The canonical form: addresses strictly rising, every listed cell holds 1. -/
abbrev Memory.wf (m : Memory) : Prop :=
  m.Pairwise (fun c c' => c.1 < c'.1) ∧ ∀ c ∈ m, c.2 = 1#8

/-! ## Straps and derived constants -/

/-- `HEADER_BITS` of the state's strap. -/
def State.header (s : State) : Nat := headerBits s.straps.variant

/-- `EXPECTED_BITS = CAPACITY` of the state's strap (spec/00_scope.md R6). -/
def State.expected (s : State) : Nat := expectedBits s.straps.variant

/-- The whole BitBuffer as a value: cells `0 .. CAPACITY-1` in arrival order (spec/20_memory.md R50). -/
def State.cells (s : State) : List Bool := (List.range s.expected).map (Memory.bit s.buf)

/-- What a read of the BitBuffer sees by itself. With the gate closed, the cells. With the gate open, a cell at or
above the cursor has any value (spec/93_implementation_defined.md U6). -/
def State.view (s : State) : List Bool :=
  (List.range s.expected).map fun a =>
    if s.samplerEn && decide (s.cursor.toNat ≤ a) then Config.racedCell s.raceCount a else Memory.bit s.buf a

/-! ## Updates of one field -/

/-- Sets the BitBuffer. -/
def State.setBuf (s : State) (m : Memory) : State := { s with buf := m }

/-- `cursor <- v`. -/
def State.setCursor (s : State) (v : BitVec 7) : State := { s with cursor := v }

/-- `cap_state <- c`, the block's control transfer (spec/00_scope.md R10). -/
def State.goto (s : State) (c : CapState) : State := { s with capState := c }

/-- `sampler_en <- b`. -/
def State.setGate (s : State) (b : Bool) : State := { s with samplerEn := b }

/-- `settle_cnt <- n`. -/
def State.setSettle (s : State) (n : Nat) : State := { s with settleCnt := n }

/-- `budget_cnt <- n`. -/
def State.setBudget (s : State) (n : Nat) : State := { s with budgetCnt := n }

/-- The `reset` input takes a level. -/
def State.setReset (s : State) (b : Bool) : State := { s with resetAsserted := b }

/-- The frame-indicator line takes a level. -/
def State.setFrameLine (s : State) (l : Level) : State := { s with frameLine := l }

/-- The data line takes a level. -/
def State.setDataLine (s : State) (l : Level) : State := { s with dataLine := l }

/-- `emit Report(r)`: appends to the output sequence (spec/00_scope.md R10). -/
def State.emit (s : State) (r : Report) : State := { s with reports := s.reports ++ [r] }

/-- The steps that follow. -/
def State.setEvents (s : State) (es : List Event) : State := { s with events := es }

/-- Counts a tick, with the bus activity before it, taken from the free bus. -/
def State.countFreeTick (s : State) : State := { s with freeTicks := s.freeTicks + 1 }

/-- The value of a function evaluated by itself. -/
def State.setResult (s : State) (r : FnResult) : State := { s with result := some r }

/-- Counts a read that raced, so that the next one sees fresh free values. -/
def State.countRace (s : State) : State := { s with raceCount := s.raceCount + 1 }

/-! ## Memory operations -/

/-- `MemClear()` (spec/00_scope.md R10). -/
def State.memClear (s : State) : State := s.setBuf Memory.cleared

/-- `MemWrite(a, 1, b)`: in range when `a < CAPACITY` (spec/20_memory.md R55). -/
def State.memWrite (s : State) (a : Nat) (b : Bool) : Except Fault State :=
  if a < s.expected then .ok (s.setBuf (Memory.write s.buf a (Memory.byteOf b))) else .error (.cellOutOfRange a)

/-- `MemRead(a, n)` of a BitBuffer value: `n` cells in ascending order, defined only when `a + n <= CAPACITY`
(spec/00_scope.md R10, spec/20_memory.md R54). -/
def memRead (cells : List Bool) (a n : Nat) : Option (List Bool) :=
  if a + n ≤ cells.length then some ((cells.drop a).take n) else none

/-! ## Entry of an error, end of a cycle, reset -/

/-- `raise DecodeError(c, k)`: the record it returns (spec/60_exceptions.md R210). -/
def errorReport (c : Cause) (k : Fin 4) : Report where
  err := true
  rpm := 0#14
  cause := c
  frame := k
  stop := false

/-- Taking an error, and ending a cycle without one: emit the Report, clear the BitBuffer, go to `Idle`, the only
"vector"; no state is saved and no mode changes (spec/60_exceptions.md R215, R216). There is no return operation: the
next tick starts a cycle (R218). -/
def State.endCycle (s : State) (r : Report) : State := ((s.emit r).memClear).goto .idle

/-- Leaving `Capturing`: the gate closes in the step that changes the state (spec/70_reset_and_hazards.md R251). -/
def State.closeWindow (s : State) (next : CapState) : State := (s.setGate false).goto next

/-- `reset` asserted: every register at its reset value, the cycle abandoned with no Report
(spec/70_reset_and_hazards.md R240, R241, R243). Straps, line levels and Reports already emitted stay. -/
def State.enterReset (s : State) : State :=
  (((((((s.setReset true).memClear).setCursor 0#7).goto .idle).setGate false).setSettle 0).setBudget 0)

/-- `reset` deasserted: the registers stay as they are (spec/70_reset_and_hazards.md R240). -/
def State.leaveReset (s : State) : State := s.setReset false

end Sys2Proof.Machine
end

