-- ==== Sys2Proof/Machine/DigitMapper.lean ====
section
/-! DEFINITION. DigitMapper's two functions (spec/43_digit_mapper.md). -/

namespace Sys2Proof.Machine

/-- `DIGIT(d)`: the pair `(valid, n)`, `(0, 0)` for a pattern outside the table (R165, R166). -/
def digitOf (d : BitVec 9) : Bool × BitVec 4 :=
  match digitOfPattern (patternOf d) with
  | some n => (true, n)
  | none => (false, 0#4)

/-- `STOPFLAG(d) = d[0]` (R172). -/
def stopFlagOf (d : BitVec 9) : Bool := d.getLsbD 0

/-- Evaluates DIGIT by itself. -/
def State.evalDigit (s : State) (d : BitVec 9) : State := s.setResult (.digit (digitOf d).1 (digitOf d).2)

/-- R165, `DIGIT(d)`. -/
def execDigit (t : Bool) (p : BitVec 7) (stop : Bool) (s : State) : Host.Outcome State Fault Refusal :=
  .next (s.evalDigit (dataValue t p stop))

/-- R172, `STOPFLAG(d)`. -/
def execStopFlag (t : Bool) (p : BitVec 7) (stop : Bool) (s : State) : Host.Outcome State Fault Refusal :=
  .next (s.setResult (.stop (stopFlagOf (dataValue t p stop))))

end Sys2Proof.Machine
end

