-- ==== Sys2Proof/Machine/FieldPatterns.lean ====
section
/-! DEFINITION. The constant field patterns: what the check of a slot answers for a field that carries one
(spec/30_encoding.md R87, R88, R90). A field that carries none is rejected by the decoder with the decode error of its
slot (spec/44_rpm_resolver.md R181 to R183). -/

namespace Sys2Proof.Machine

/-- R87: 0xA0, the address frame 0 must carry; the check passes. -/
def execAddrFrame0 (s : State) : Host.Outcome State Fault Refusal := .next (s.setResult (.addressMatch 0))

/-- R87: 0xA1, the address frame 1 must carry; the check passes. -/
def execAddrFrame1 (s : State) : Host.Outcome State Fault Refusal := .next (s.setResult (.addressMatch 1))

/-- R87: 0xA2, the address frame 2 must carry; the check passes. -/
def execAddrFrame2 (s : State) : Host.Outcome State Fault Refusal := .next (s.setResult (.addressMatch 2))

/-- R87: 0xA3, the address frame 3 must carry; the check passes. -/
def execAddrFrame3 (s : State) : Host.Outcome State Fault Refusal := .next (s.setResult (.addressMatch 3))

/-- R88: segment pattern 0x7D is numeral 0; `t` and `s` are free. -/
def execDigit0 (t stop : Bool) (s : State) : Host.Outcome State Fault Refusal :=
  .next (s.evalDigit (dataValue t 0x7D#7 stop))

/-- R88: segment pattern 0x05 is numeral 1; `t` and `s` are free. -/
def execDigit1 (t stop : Bool) (s : State) : Host.Outcome State Fault Refusal :=
  .next (s.evalDigit (dataValue t 0x05#7 stop))

/-- R88: segment pattern 0x6B is numeral 2; `t` and `s` are free. -/
def execDigit2 (t stop : Bool) (s : State) : Host.Outcome State Fault Refusal :=
  .next (s.evalDigit (dataValue t 0x6B#7 stop))

/-- R88: segment pattern 0x4F is numeral 3; `t` and `s` are free. -/
def execDigit3 (t stop : Bool) (s : State) : Host.Outcome State Fault Refusal :=
  .next (s.evalDigit (dataValue t 0x4F#7 stop))

/-- R88: segment pattern 0x17 is numeral 4; `t` and `s` are free. -/
def execDigit4 (t stop : Bool) (s : State) : Host.Outcome State Fault Refusal :=
  .next (s.evalDigit (dataValue t 0x17#7 stop))

/-- R88: segment pattern 0x5E is numeral 5; `t` and `s` are free. -/
def execDigit5 (t stop : Bool) (s : State) : Host.Outcome State Fault Refusal :=
  .next (s.evalDigit (dataValue t 0x5E#7 stop))

/-- R88: segment pattern 0x7E is numeral 6; `t` and `s` are free. -/
def execDigit6 (t stop : Bool) (s : State) : Host.Outcome State Fault Refusal :=
  .next (s.evalDigit (dataValue t 0x7E#7 stop))

/-- R88: segment pattern 0x0D is numeral 7; `t` and `s` are free. -/
def execDigit7 (t stop : Bool) (s : State) : Host.Outcome State Fault Refusal :=
  .next (s.evalDigit (dataValue t 0x0D#7 stop))

/-- R88: segment pattern 0x7F is numeral 8; `t` and `s` are free. -/
def execDigit8 (t stop : Bool) (s : State) : Host.Outcome State Fault Refusal :=
  .next (s.evalDigit (dataValue t 0x7F#7 stop))

/-- R88: segment pattern 0x5F is numeral 9; `t` and `s` are free. -/
def execDigit9 (t stop : Bool) (s : State) : Host.Outcome State Fault Refusal :=
  .next (s.evalDigit (dataValue t 0x5F#7 stop))

/-- R90: 0x020, the value frame 3's data must carry; the check passes and no digit is read. -/
def execSentinel (s : State) : Host.Outcome State Fault Refusal := .next (s.setResult .sentinelMatch)

end Sys2Proof.Machine
end

