-- ==== Sys2Proof/Machine/Operands.lean ====
section
/-! DEFINITION. Operand forms: the offset correction, the two folds, the fields of a packet as cells. -/

namespace Sys2Proof.Machine

/-- Nominal to corrected offset: `corrected = nominal + HEADER_BITS` (spec/42_frame_decoder.md R158). -/
def correctedOffset (header o : Nat) : Nat := header + o

/-- The address fold: seed 1, 8-bit accumulator, shift left and exclusive-or with each sample
(spec/42_frame_decoder.md R150). -/
def foldAddress (bits : List Bool) : BitVec 8 :=
  bits.foldl (fun v b => (v <<< 1) ^^^ (BitVec.ofBool b).setWidth 8) 1#8

/-- The data fold: seed 0, 9-bit accumulator (spec/42_frame_decoder.md R155). -/
def foldData (bits : List Bool) : BitVec 9 :=
  bits.foldl (fun v b => (v <<< 1) ^^^ (BitVec.ofBool b).setWidth 9) 0#9

/-- `READ_ADDR(o)` of a BitBuffer value (spec/42_frame_decoder.md R150, R159): no value outside the precondition. -/
def readAddrAt (cells : List Bool) (header o : Nat) : Option (BitVec 8) :=
  (memRead cells (correctedOffset header o) 8).map foldAddress

/-- `READ_DATA(o)` of a BitBuffer value (spec/42_frame_decoder.md R155, R159): no value outside the precondition. -/
def readDataAt (cells : List Bool) (header o : Nat) : Option (BitVec 9) :=
  (memRead cells (correctedOffset header o) 9).map foldData

/-- Nominal offset of frame `k`'s address (spec/20_memory.md R59). -/
def addrOffset (k : Nat) : Nat := 17 * k

/-- Nominal offset of frame `k`'s data (spec/20_memory.md R59). -/
def dataOffset (k : Nat) : Nat := 17 * k + 8

/-- The bits of a field in order of transmission, most significant first (spec/30_encoding.md R81). -/
def wireBits {w : Nat} (v : BitVec w) : List Bool := (List.range w).map fun i => v.getMsbD i

/-- The 68 cells of four frames in order of transmission (spec/30_encoding.md R80). -/
def packetCells (k : Packet) : List Bool :=
  wireBits k.a ++ wireBits k.d ++ wireBits k.b ++ wireBits k.e ++ wireBits k.c ++ wireBits k.f ++ wireBits k.g ++
    wireBits k.h

end Sys2Proof.Machine
end

