-- ==== Sys2Proof/Machine/FrameDecoder.lean ====
section
/-! DEFINITION. FrameDecoder's two extraction functions, evaluated by themselves (spec/42_frame_decoder.md). The value
goes to the model's own `result` field; nothing of the hardware's state changes (R160; log entry 7). -/

namespace Sys2Proof.Machine

/-- After a read by itself: a read made while the gate is open has used free values (log entry 8). -/
def State.afterRead (s : State) : State := if s.samplerEn then s.countRace else s

/-- R150, `READ_ADDR(o)`; outside the precondition it is refused (R159). -/
def execReadAddr (o : BitVec 7) (s : State) : Host.Outcome State Fault Refusal :=
  match readAddrAt s.view s.header o.toNat with
  | some v => .next (s.afterRead.setResult (.addr v))
  | none => .refused (.offsetOutOfRange o)

/-- R155, `READ_DATA(o)`; outside the precondition it is refused (R159). -/
def execReadData (o : BitVec 7) (s : State) : Host.Outcome State Fault Refusal :=
  match readDataAt s.view s.header o.toNat with
  | some v => .next (s.afterRead.setResult (.data v))
  | none => .refused (.offsetOutOfRange o)

end Sys2Proof.Machine
end

