-- ==== Sys2Proof/Machine/RpmResolver.lean ====
section
/-! DEFINITION. RpmResolver: RESOLVE over a BitBuffer value, and the two operations that evaluate it by itself
(spec/44_rpm_resolver.md). -/

namespace Sys2Proof.Machine

/-- Why and where `RESOLVE` ended early. -/
abbrev DecodeFailure := Cause × Fin 4

/-- The address check of frame `k` (R181). The eight reads of `RESOLVE` are in range (spec/20_memory.md R54). -/
def checkAddress (cells : List Bool) (header : Nat) (k : Fin 4) : Except DecodeFailure Unit :=
  if readAddrAt cells header (addrOffset k.val) = some (expectedAddress k) then .ok ()
  else .error (.addressMismatch, k)

/-- One pass of the loop of R180 for a digit frame: address, then digit; its data value and numeral. -/
def resolveDigitFrame (cells : List Bool) (header : Nat) (k : Fin 3) : Except DecodeFailure (BitVec 9 × Nat) :=
  match checkAddress cells header k.castSucc with
  | .error e => .error e
  | .ok () =>
    match readDataAt cells header (dataOffset k.val) with
    | none => .error (.invalidDigit, k.castSucc)
    | some d =>
      if (digitOf d).1 then .ok (d, (digitOf d).2.toNat) else .error (.invalidDigit, k.castSucc)

/-- Frame 3: address, then sentinel; it is never passed to DIGIT or STOPFLAG (R183, R184). -/
def resolveSentinelFrame (cells : List Bool) (header : Nat) : Except DecodeFailure Unit :=
  match checkAddress cells header 3 with
  | .error e => .error e
  | .ok () =>
    if readDataAt cells header (dataOffset 3) = some sentinelValue then .ok () else .error (.sentinelMismatch, 3)

/-- The record of a success (R180, R186): the weighted sum of the three numerals. -/
def readingReport (n0 n1 n2 : Nat) (stop : Bool) : Report where
  err := false
  rpm := BitVec.ofNat 14 (n0 * weight 0 + n1 * weight 1 + n2 * weight 2)
  cause := .none
  frame := 0
  stop := stop

/-- The checks in order, the first that fails ending the evaluation (R180, R185). -/
def resolveChecks (cells : List Bool) (header : Nat) : Except DecodeFailure Report :=
  match resolveDigitFrame cells header 0 with
  | .error e => .error e
  | .ok (_, n0) =>
    match resolveDigitFrame cells header 1 with
    | .error e => .error e
    | .ok (_, n1) =>
      match resolveDigitFrame cells header 2 with
      | .error e => .error e
      | .ok (d2, n2) =>
        match resolveSentinelFrame cells header with
        | .error e => .error e
        | .ok () => .ok (readingReport n0 n1 n2 (stopFlagOf d2))

/-- `RESOLVE(buf, HEADER_BITS)` (R180). -/
def resolveCells (cells : List Bool) (header : Nat) : Report :=
  match resolveChecks cells header with
  | .ok r => r
  | .error (c, k) => errorReport c k

/-- A BitBuffer value whose frame cells are the operand. The header cells are not read (spec/20_memory.md R60): zeros. -/
def operandCells (header : Nat) (k : Packet) : List Bool := List.replicate header false ++ packetCells k

/-- R180, `RESOLVE` by itself, on the BitBuffer value of its operand layout (spec/30_encoding.md R102). -/
def execResolve (pkt : Packet) (s : State) : Host.Outcome State Fault Refusal :=
  .next (s.setResult (.report (resolveCells (operandCells s.header pkt) s.header)))

/-- R190, the accepted-packet pattern: the reading of its three patterns. Patterns outside the table are not in the
accepted set, and the answer then is that they are not. -/
def execPacketAccepted (_u : Bool) (p : BitVec 7) (_x _v : Bool) (q : BitVec 7) (_y _w : Bool) (r : BitVec 7)
    (stop : Bool) (s : State) : Host.Outcome State Fault Refusal :=
  match digitOfPattern p, digitOfPattern q, digitOfPattern r with
  | some n0, some n1, some n2 => .next (s.setResult (.report (readingReport n0.toNat n1.toNat n2.toNat stop)))
  | _, _, _ => .next (s.setResult .notAccepted)

end Sys2Proof.Machine
end

