-- ==== Sys2Proof/Machine/Flags.lean ====
section
/-! DEFINITION. The condition bits of the two dispatch words, and the words. The block has no arithmetic flags
(spec/10_state.md R31). -/

namespace Sys2Proof.Machine

/-- `F`: the frame-indicator line is at its asserted level (spec/10_state.md R38). -/
def State.frameActive (s : State) : Bool := s.frameLine == s.straps.frameActiveLevel

/-- `Z`: `settle_cnt = 0` (spec/30_encoding.md R100). -/
def State.settleDone (s : State) : Bool := s.settleCnt == 0

/-- `C`: `cursor = EXPECTED_BITS` (spec/30_encoding.md R100). -/
def State.captureFull (s : State) : Bool := s.cursor.toNat == s.expected

/-- `B`: `budget_cnt = 0` (spec/30_encoding.md R100). -/
def State.budgetGone (s : State) : Bool := s.budgetCnt == 0

/-- `L`: `cursor < EXPECTED_BITS` (spec/30_encoding.md R101). -/
def State.hasRoom (s : State) : Bool := decide (s.cursor.toNat < s.expected)

/-- The sequencer's dispatch word `s2 s1 s0 F Z C B` (spec/30_encoding.md R100). -/
def State.sequencerWord (s : State) : BitVec 7 :=
  stateCode s.capState ++ BitVec.ofBool s.frameActive ++ BitVec.ofBool s.settleDone ++
    BitVec.ofBool s.captureFull ++ BitVec.ofBool s.budgetGone

/-- The sampler's dispatch word `E L d` (spec/30_encoding.md R101). -/
def State.samplerWord (s : State) : BitVec 3 :=
  BitVec.ofBool s.samplerEn ++ BitVec.ofBool s.hasRoom ++ BitVec.ofBool s.dataLine.isHigh

end Sys2Proof.Machine
end

