-- ==== Sys2Proof/Machine/Sampler.lean ====
section
/-! DEFINITION. BitSampler's three operations (spec/40_bit_sampler.md), each under the condition its dispatch word
gives it (spec/30_encoding.md R101; log entry 6). -/

namespace Sys2Proof.Machine

/-- R110, `SAMPLE`: `buf[cursor] <- d; cursor <- cursor + 1`. -/
def execSample (d : Bool) (s : State) : Host.Outcome State Fault Refusal :=
  if s.samplerEn = true ∧ s.hasRoom = true then
    match s.memWrite s.cursor.toNat d with
    | .ok s' => .next (s'.setCursor (s.cursor + 1#7))
    | .error r => .fault r
  else .refused (.notDispatched "SAMPLE")

/-- R111, `EDGE_DROP_FULL`: no state changes. -/
def execEdgeDropFull (_d : Bool) (s : State) : Host.Outcome State Fault Refusal :=
  if s.samplerEn = true ∧ s.hasRoom = false then .next s
  else .refused (.notDispatched "EDGE_DROP_FULL")

/-- R112, `EDGE_DROP_OFF`: no state changes, and the edge is not remembered. -/
def execEdgeDropOff (_l _d : Bool) (s : State) : Host.Outcome State Fault Refusal :=
  if s.samplerEn = false then .next s
  else .refused (.notDispatched "EDGE_DROP_OFF")

end Sys2Proof.Machine
end

