-- ==== Sys2Proof/Machine/Sequencer.lean ====
section
/-! DEFINITION. PacketCapture, the sequencer's eleven operations (spec/41_packet_capture.md). Each has its effect
under the `when` of its rule, read as the dispatch word of spec/30_encoding.md R100 selects it; in a state that
selects another operation it is refused by name (log entry 6). The `f z c b` operands are "either value". -/

namespace Sys2Proof.Machine

/-- R121, `CYCLE_START`: `cursor <- 0; MemClear(); cap_state <- BusWait`. -/
def execCycleStart (_f _z _c _b : Bool) (s : State) : Host.Outcome State Fault Refusal :=
  if s.capState = .idle then .next (((s.setCursor 0#7).memClear).goto .busWait)
  else .refused (.notDispatched "CYCLE_START")

/-- R122, `BUS_WAIT`: no state change; no timeout (spec/70_reset_and_hazards.md R257). -/
def execBusWait (_z _c _b : Bool) (s : State) : Host.Outcome State Fault Refusal :=
  if s.capState = .busWait ∧ s.frameActive = true then .next s
  else .refused (.notDispatched "BUS_WAIT")

/-- R123, `BUS_IDLE`: `settle_cnt <- SETTLE_TICKS; cap_state <- Settle`. -/
def execBusIdle (_z _c _b : Bool) (s : State) : Host.Outcome State Fault Refusal :=
  if s.capState = .busWait ∧ s.frameActive = false then .next ((s.setSettle s.straps.settleTicks).goto .settle)
  else .refused (.notDispatched "BUS_IDLE")

/-- R124, `SETTLE_WAIT`: `settle_cnt <- settle_cnt - 1`. -/
def execSettleWait (_f _c _b : Bool) (s : State) : Host.Outcome State Fault Refusal :=
  if s.capState = .settle ∧ s.settleDone = false then .next (s.setSettle (s.settleCnt - 1))
  else .refused (.notDispatched "SETTLE_WAIT")

/-- R126, `ARM`: `budget_cnt <- BUDGET_TICKS; sampler_en <- 1; cap_state <- Capturing`. -/
def execArm (_f _c _b : Bool) (s : State) : Host.Outcome State Fault Refusal :=
  if s.capState = .settle ∧ s.settleDone = true then
    .next (((s.setBudget s.straps.budgetTicks).setGate true).goto .capturing)
  else .refused (.notDispatched "ARM")

/-- R127, `POLL`: `budget_cnt <- budget_cnt - 1`. -/
def execPoll (_f _z : Bool) (s : State) : Host.Outcome State Fault Refusal :=
  if s.capState = .capturing ∧ s.captureFull = false ∧ s.budgetGone = false then
    .next (s.setBudget (s.budgetCnt - 1))
  else .refused (.notDispatched "POLL")

/-- R128, `CAPTURE_DONE`: `sampler_en <- 0; cap_state <- Complete`, whatever the budget (D7). -/
def execCaptureDone (_f _z _b : Bool) (s : State) : Host.Outcome State Fault Refusal :=
  if s.capState = .capturing ∧ s.captureFull = true then .next (s.closeWindow .complete)
  else .refused (.notDispatched "CAPTURE_DONE")

/-- R129, `CAPTURE_TIMEOUT`: `sampler_en <- 0; cap_state <- TimedOut`. -/
def execCaptureTimeout (_f _z : Bool) (s : State) : Host.Outcome State Fault Refusal :=
  if s.capState = .capturing ∧ s.captureFull = false ∧ s.budgetGone = true then .next (s.closeWindow .timedOut)
  else .refused (.notDispatched "CAPTURE_TIMEOUT")

/-- R131, `DECODE_REPORT`: RESOLVE on the buffer as captured, then the end of the cycle. -/
def execDecodeReport (_f _z _c _b : Bool) (s : State) : Host.Outcome State Fault Refusal :=
  if s.capState = .complete then .next (s.endCycle (resolveCells s.cells s.header))
  else .refused (.notDispatched "DECODE_REPORT")

/-- R132, `TIMEOUT_REPORT`: the partial buffer is never decoded. -/
def execTimeoutReport (_f _z _c _b : Bool) (s : State) : Host.Outcome State Fault Refusal :=
  if s.capState = .timedOut then .next (s.endCycle (errorReport .captureTimeout 0))
  else .refused (.notDispatched "TIMEOUT_REPORT")

/-- R134, `STATE_FAULT`: `sampler_en <- 0; cap_state <- Idle`, no Report. -/
def execStateFault (_s0 _f _z _c _b : Bool) (s : State) : Host.Outcome State Fault Refusal :=
  if s.capState = .reserved110 ∨ s.capState = .reserved111 then .next (s.closeWindow .idle)
  else .refused (.notDispatched "STATE_FAULT")

end Sys2Proof.Machine
end

