-- ==== Sys2Proof/Machine/Dispatch.lean ====
section
/-! DEFINITION. One arm per operation of spec/opcode_table.json. -/

namespace Sys2Proof.Machine

def exec (i : Instr) (s : State) : Host.Outcome State Fault Refusal :=
  match i with
  | .cycleStart f z c b => Sys2Proof.Machine.execCycleStart f z c b s
  | .busWait z c b => Sys2Proof.Machine.execBusWait z c b s
  | .busIdle z c b => Sys2Proof.Machine.execBusIdle z c b s
  | .settleWait f c b => Sys2Proof.Machine.execSettleWait f c b s
  | .arm f c b => Sys2Proof.Machine.execArm f c b s
  | .poll f z => Sys2Proof.Machine.execPoll f z s
  | .captureDone f z b => Sys2Proof.Machine.execCaptureDone f z b s
  | .captureTimeout f z => Sys2Proof.Machine.execCaptureTimeout f z s
  | .decodeReport f z c b => Sys2Proof.Machine.execDecodeReport f z c b s
  | .timeoutReport f z c b => Sys2Proof.Machine.execTimeoutReport f z c b s
  | .stateFault s0 f z c b => Sys2Proof.Machine.execStateFault s0 f z c b s
  | .sample d => Sys2Proof.Machine.execSample d s
  | .edgeDropFull d => Sys2Proof.Machine.execEdgeDropFull d s
  | .edgeDropOff l d => Sys2Proof.Machine.execEdgeDropOff l d s
  | .readAddr o => Sys2Proof.Machine.execReadAddr o s
  | .readData o => Sys2Proof.Machine.execReadData o s
  | .digit t p stop => Sys2Proof.Machine.execDigit t p stop s
  | .stopFlag t p stop => Sys2Proof.Machine.execStopFlag t p stop s
  | .resolve pkt => Sys2Proof.Machine.execResolve pkt s
  | .packetAccepted u p x v q y w r stop => Sys2Proof.Machine.execPacketAccepted u p x v q y w r stop s
  | .addrFrame0 => Sys2Proof.Machine.execAddrFrame0 s
  | .addrFrame1 => Sys2Proof.Machine.execAddrFrame1 s
  | .addrFrame2 => Sys2Proof.Machine.execAddrFrame2 s
  | .addrFrame3 => Sys2Proof.Machine.execAddrFrame3 s
  | .digit0 t stop => Sys2Proof.Machine.execDigit0 t stop s
  | .digit1 t stop => Sys2Proof.Machine.execDigit1 t stop s
  | .digit2 t stop => Sys2Proof.Machine.execDigit2 t stop s
  | .digit3 t stop => Sys2Proof.Machine.execDigit3 t stop s
  | .digit4 t stop => Sys2Proof.Machine.execDigit4 t stop s
  | .digit5 t stop => Sys2Proof.Machine.execDigit5 t stop s
  | .digit6 t stop => Sys2Proof.Machine.execDigit6 t stop s
  | .digit7 t stop => Sys2Proof.Machine.execDigit7 t stop s
  | .digit8 t stop => Sys2Proof.Machine.execDigit8 t stop s
  | .digit9 t stop => Sys2Proof.Machine.execDigit9 t stop s
  | .sentinel => Sys2Proof.Machine.execSentinel s

end Sys2Proof.Machine
end

