-- ==== Sys2Proof/Machine/Fetch.lean ====
section
/-! DEFINITION. Which agent steps next and with which operation: the fetch of a machine without a program counter
(spec/00_scope.md R12, R13). -/

namespace Sys2Proof.Machine

/-- What a step is about to do. -/
inductive Fetched where
  /-- Run an operation in this state. -/
  | run (i : Instr) (s : State)
  /-- An input changed, or an event has no operation: this is the next state. -/
  | env (s : State)
  /-- The event names no call that exists. -/
  | stop (r : Refusal)
  deriving DecidableEq, Repr

/-- Hands a decoded word on. -/
def fetchWord (ch : Channel) (w : Nat) (s : State) : Fetched :=
  match decode ch w with
  | .ok i => .run i s
  | .error (.checkFailed c k) => .env (s.setResult (.decodeError c k))
  | .error .notAccepted => .env (s.setResult .notAccepted)
  | .error (.wordTooWide width w) => .stop (.operandTooWide width w)

/-- A tick: the sequencer's dispatch (spec/41_packet_capture.md R120); none while `reset` is asserted
(spec/70_reset_and_hazards.md R240). -/
def fetchTick (s : State) : Fetched :=
  if s.resetAsserted then .env s else fetchWord .sequencer s.sequencerWord.toNat s

/-- A falling clock edge: the sampler's dispatch on the level that comes with the edge
(spec/30_encoding.md R101, spec/40_bit_sampler.md R113); ignored while `reset` is asserted. -/
def fetchEdge (level : Level) (s : State) : Fetched :=
  let s := s.setDataLine level
  if s.resetAsserted then .env s else fetchWord .sampler s.samplerWord.toNat s

/-- One event. -/
def fetchEvent (e : Event) (s : State) : Fetched :=
  match e with
  | .tick => fetchTick s
  | .clkFall level => fetchEdge level s
  | .frameLine level => .env (s.setFrameLine level)
  | .dataLine level => .env (s.setDataLine level)
  | .reset true => .env s.enterReset
  | .reset false => .env s.leaveReset
  | .eval fn w => fetchWord (.fn fn) w s

/-- A stimulus as an event. -/
def eventOf : Stimulus → Event
  | .clkFall level => .clkFall level
  | .frameLine level => .frameLine level
  | .dataLine level => .dataLine level
  | .reset asserted => .reset asserted

/-- The steps up to and including the next tick of the free bus. Each stretch is finite and ends in a tick, which is the
one thing the spec assumes: outside reset the sequencer keeps ticking (spec/70_reset_and_hazards.md R262; log entry 4). -/
def freeStretch (n : Nat) : List Event := (Config.betweenTicks n).map eventOf ++ [.tick]

/-- The state with a next event listed: where the list has run out, the next stretch of the free bus. -/
def State.withSchedule (s : State) : State :=
  match s.events with
  | [] => (s.setEvents (freeStretch s.freeTicks)).countFreeTick
  | _ :: _ => s

/-- The event that comes next. A stretch of the free bus is never empty. -/
def State.nextEvent (s : State) : Event := s.withSchedule.events.headD .tick

/-- The state with the next event taken off its list. -/
def State.afterEvent (s : State) : State := s.withSchedule.setEvents s.withSchedule.events.tail

/-- The next event, listed or free. -/
def fetch (s : State) : Fetched := fetchEvent s.nextEvent s.afterEvent

/-- The state with the levels, counters and cursor that make `w` the sequencer's dispatch word, a tick coming next.
A register whose condition bit already agrees keeps its value. -/
def placeSequencerWord (s : State) (w : Nat) : State :=
  let line := if w.testBit 3 then s.straps.frameActiveLevel else s.straps.frameActiveLevel.other
  let settle := if w.testBit 2 then 0 else if s.settleCnt = 0 then 1 else s.settleCnt
  let cursor :=
    if w.testBit 1 then BitVec.ofNat 7 s.expected else if s.cursor.toNat = s.expected then 0#7 else s.cursor
  let budget := if w.testBit 0 then 0 else if s.budgetCnt = 0 then 1 else s.budgetCnt
  ((((((s.setReset false).goto (stateOfCode (w / 16))).setFrameLine line).setSettle settle).setCursor cursor).setBudget
    budget).setEvents (.tick :: s.events)

/-- The state with the gate and cursor that make `w` the sampler's dispatch word, a falling edge coming next. -/
def placeSamplerWord (s : State) (w : Nat) : State :=
  let cursor :=
    if w.testBit 1 then (if s.cursor.toNat < s.expected then s.cursor else 0#7)
    else if s.cursor.toNat < s.expected then BitVec.ofNat 7 s.expected else s.cursor
  (((s.setReset false).setGate (w.testBit 2)).setCursor cursor).setEvents
    (.clkFall (Level.ofBit (w.testBit 0)) :: s.events)

/-- The state in which the word is the one the next step reads (log entry 5). A word that is no operation leaves
the state as it is. -/
def placeTableWord (s : State) (nbits w : Nat) : State :=
  match tableChannel nbits w with
  | none => s
  | some .sequencer => placeSequencerWord s w
  | some .sampler => placeSamplerWord s w
  | some (.fn c) => s.setEvents (.eval c w :: s.events)

end Sys2Proof.Machine
end

