-- ==== Sys2Proof/Machine/Step.lean ====
section
/-! DEFINITION. One step of one agent, and where the next step's word is placed. -/

namespace Sys2Proof.Machine

/-- One atomic step (spec/00_scope.md R13): the operation fetched is run. -/
def step (s : State) : Host.Outcome State Fault Refusal :=
  match fetch s with
  | .run i s' => exec i s'
  | .env s' => .next s'
  | .stop r => .refused r

/-- The state whose next step runs the operation of this table word. -/
def State.withFetchWord (s : State) (nbits w : Nat) : State := placeTableWord s nbits w

end Sys2Proof.Machine
end

