-- ==== Sys2Proof/Machine/HostBoundary.lean ====
section
/-! DEFINITION. What the host makes of a Report, specified at the boundary only (spec/60_exceptions.md R225, R226). -/

namespace Sys2Proof.Machine

/-- The three payloads of the render call. The text of the unit label and the number format are not in the spec. -/
inductive Payload where
  | err2
  | stopped
  | reading (rpm : Nat)
  deriving DecidableEq, Repr

/-- The payload of a Report; `cause`, `frame` and `stop` are not consulted (spec/60_exceptions.md R226). -/
def payloadOf (r : Report) : Payload :=
  if r.err then .err2 else if r.rpm = 0#14 then .stopped else .reading r.rpm.toNat

end Sys2Proof.Machine
end

