-- ==== Sys2Proof/Machine/Stimulus.lean ====
section
/-! DEFINITION. The spec's own way of writing packets and stimuli, as data (spec/30_encoding.md R108). -/

namespace Sys2Proof.Machine

/-- `A:D` pairs to a packet: `PKT(; f0, f1, f2, f3)`. -/
def pkt (a0 : Nat) (d0 : Nat) (a1 : Nat) (d1 : Nat) (a2 : Nat) (d2 : Nat) (a3 : Nat) (d3 : Nat) : Packet where
  a := BitVec.ofNat 8 a0
  d := BitVec.ofNat 9 d0
  b := BitVec.ofNat 8 a1
  e := BitVec.ofNat 9 d1
  c := BitVec.ofNat 8 a2
  f := BitVec.ofNat 9 d2
  g := BitVec.ofNat 8 a3
  h := BitVec.ofNat 9 d3

/-- The segment pattern of a numeral (spec/30_encoding.md R88). -/
def patternOfDigit (n : Fin 10) : BitVec 7 :=
  match n with
  | 0 => 0x7D#7
  | 1 => 0x05#7
  | 2 => 0x6B#7
  | 3 => 0x4F#7
  | 4 => 0x17#7
  | 5 => 0x5E#7
  | 6 => 0x7E#7
  | 7 => 0x0D#7
  | 8 => 0x7F#7
  | 9 => 0x5F#7

/-- `DIG(; d1 d2 d3; s)`: correct addresses, `t = 0`, stop flags 0 in frames 0 and 1, the sentinel. -/
def dig (d1 d2 d3 : Fin 10) (stop : Bool) : Packet where
  a := 0xA0#8
  d := dataValue false (patternOfDigit d1) false
  b := 0xA1#8
  e := dataValue false (patternOfDigit d2) false
  c := 0xA2#8
  f := dataValue false (patternOfDigit d3) stop
  g := 0xA3#8
  h := 0x020#9

/-- `SEND(bits)`: one clock event for each bit. -/
def send (bits : List Bool) : List Event := bits.map fun b => .clkFall (Level.ofBit b)

/-- `T*n`. -/
def ticks (n : Nat) : List Event := List.replicate n .tick

end Sys2Proof.Machine
end

