-- ==== Sys2Proof/Safety.lean ====
section
/-! DEFINITION. The invariants of spec/10_state.md R48, and runs of several steps, in the terms the statements use. -/

namespace Sys2Proof.Machine

/-- I1: `cursor <= EXPECTED_BITS`. -/
abbrev CursorInRange (s : State) : Prop := s.cursor.toNat ≤ s.expected

/-- I2: `sampler_en = 1` iff `cap_state = Capturing`. -/
abbrev GateIffCapturing (s : State) : Prop := s.samplerEn = true ↔ s.capState = .capturing

/-- I3: every cell at or above the cursor is 0 in the five states a window passes through. -/
abbrev EmptyAboveCursor (s : State) : Prop :=
  s.capState ∈ [CapState.busWait, .settle, .capturing, .complete, .timedOut] →
    ∀ a < s.expected, s.cursor.toNat ≤ a → Memory.bit s.buf a = false

/-- I4: between windows every cell is 0, and while waiting for one the cursor is 0. -/
abbrev EmptyBetweenWindows (s : State) : Prop :=
  (s.capState ∈ [CapState.idle, .busWait, .settle] → ∀ a < s.expected, Memory.bit s.buf a = false) ∧
    (s.capState ∈ [CapState.busWait, .settle] → s.cursor = 0#7)

/-- I5: a complete capture has a full cursor, a timed-out one has not. -/
abbrev CursorAtExit (s : State) : Prop :=
  (s.capState = .complete → s.cursor.toNat = s.expected) ∧ (s.capState = .timedOut → s.cursor.toNat < s.expected)

/-- I6: the reserved codes do not occur. -/
abbrev NoReservedState (s : State) : Prop := s.capState ≠ .reserved110 ∧ s.capState ≠ .reserved111

/-- The BitBuffer is in canonical form and lists only cells that exist (spec/20_memory.md R46, R55). -/
abbrev BufferCanonical (s : State) : Prop := Memory.wf s.buf ∧ ∀ c ∈ s.buf, c.1 < s.expected

/-- Neither counter holds more than it is loaded with (spec/10_state.md R35), so `CNT_W` bits hold both. -/
abbrev CountersLoaded (s : State) : Prop :=
  s.settleCnt ≤ s.straps.settleTicks ∧ s.budgetCnt ≤ s.straps.budgetTicks

/-- While `reset` is asserted the registers hold their reset values (spec/70_reset_and_hazards.md R240). -/
abbrev HeldInReset (s : State) : Prop :=
  s.resetAsserted = true →
    s.capState = .idle ∧ s.samplerEn = false ∧ s.cursor = 0#7 ∧ s.buf = [] ∧ s.settleCnt = 0 ∧ s.budgetCnt = 0

/-- All invariants together. -/
structure Safe (s : State) : Prop where
  cursorInRange : CursorInRange s
  gateIffCapturing : GateIffCapturing s
  emptyAboveCursor : EmptyAboveCursor s
  emptyBetweenWindows : EmptyBetweenWindows s
  cursorAtExit : CursorAtExit s
  noReservedState : NoReservedState s
  bufferCanonical : BufferCanonical s
  countersLoaded : CountersLoaded s
  heldInReset : HeldInReset s

/-- The straps meet the boot requirement: `CNT_W` bits hold both tick parameters
(spec/70_reset_and_hazards.md R245). -/
abbrev Straps.bootReady (p : Straps) : Prop := p.settleTicks < 2 ^ p.cntW ∧ p.budgetTicks < 2 ^ p.cntW

/-- `n` steps, stopping at the first fault or refusal. -/
def steps : Nat → State → Host.Outcome State Fault Refusal
  | 0, s => .next s
  | n + 1, s =>
    match step s with
    | .next t => steps n t
    | .fault r => .fault r
    | .refused r => .refused r

/-- The levels of the clock edges among some events, in order. -/
def edgeLevels : List Event → List Bool
  | [] => []
  | .clkFall l :: es => l.isHigh :: edgeLevels es
  | .tick :: es => edgeLevels es
  | .frameLine _ :: es => edgeLevels es
  | .dataLine _ :: es => edgeLevels es
  | .reset _ :: es => edgeLevels es
  | .eval _ _ :: es => edgeLevels es

/-- An event of the bus or the sequencer, as a capture window sees them: not a reset and not a call by itself. -/
def Event.ofWindow : Event → Bool
  | .tick => true
  | .clkFall _ => true
  | .frameLine _ => true
  | .dataLine _ => true
  | .reset _ => false
  | .eval _ _ => false

end Sys2Proof.Machine
end

