-- ==== Sys2Proof/Certificates/Slice0/Obligations.lean ====
section
/-! DEFINITION. The statements for the provers. Each docstring names the sentence or rule of spec/ it formalises; where a
clause rests on a choice of the model's, it names the log entry. -/

open Sys2Proof Sys2Proof.Machine

/-! ## Encoding -/

/-- Decoding the word an operation is encoded to gives the operation back, on its own channel, with every operand
(spec/30_encoding.md sections 4 and 6, spec/opcode_table.json). -/
def Obligations.DecodeAfterEncodeIsIdentity : Prop :=
  ∀ i : Instr, i.wellFormed = true →
    decode (encode i).channel (encode i).bits = .ok i ∧ (encode i).bits < 2 ^ (encode i).channel.width

/-- Encoding what a word decodes to gives the word back, bit for bit. A digit pattern is encoded for frame 0 and may
have been read in any of the frames 0 to 2 (spec/30_encoding.md sections 3 and 4; log entry 16: the model's choice). -/
def Obligations.EncodeAfterDecodeIsIdentity : Prop :=
  ∀ (ch : Channel) (w : Nat) (i : Instr), decode ch w = .ok i →
    i.wellFormed = true ∧ (encode i).bits = w ∧
      ((encode i).channel = ch ∨
        ∃ k, ch = .fn (.digitField k) ∧ (encode i).channel = .fn (.digitField 0))

/-- "The eleven patterns are pairwise disjoint and together cover all 128 dispatch words": exactly one row of the table
fits each word, and it is the row of the operation decoded; likewise the three sampler rows and their 8 words
(spec/30_encoding.md section 4). -/
def Obligations.DispatchRowsPartitionTheWords : Prop :=
  (∀ w < 128, (sequencerRows.filter (·.matches w)).map (·.mnemonic) = [(decodeSequencer w).mnemonic] ∧
    decode .sequencer w = .ok (decodeSequencer w)) ∧
  (∀ w < 8, (samplerRows.filter (·.matches w)).map (·.mnemonic) = [(decodeSampler w).mnemonic] ∧
    decode .sampler w = .ok (decodeSampler w))

/-- Words written out from the encodings of spec/30_encoding.md sections 3 and 4 decode to the operations they stand
for. -/
def Obligations.WrittenWordsDecode : Prop :=
  decode .sequencer 0b0001101 = .ok (.cycleStart true true false true) ∧
  decode .sequencer 0b0011010 = .ok (.busWait false true false) ∧
  decode .sequencer 0b0101001 = .ok (.settleWait true false true) ∧
  decode .sequencer 0b0110110 = .ok (.captureDone false true false) ∧
  decode .sampler 0b111 = .ok (.sample true) ∧
  decode .sampler 0b010 = .ok (.edgeDropOff true false) ∧
  decode (.fn .readAddr) 0b0010001 = .ok (.readAddr 17#7) ∧
  decode (.fn .digit) 0b011010111 = .ok (.digit false 0x6B#7 true) ∧
  decode (.fn (.addrField 2)) 0b10100010 = .ok .addrFrame2 ∧
  decode (.fn (.digitField 1)) 0b110011110 = .ok (.digit3 true false) ∧
  decode (.fn .sentinelField) 0b000100000 = .ok .sentinel

/-- A field is accepted at its slot exactly when it carries the slot's constant, and is otherwise rejected with the
error cause and frame of that slot (spec/44_rpm_resolver.md, the causes; spec/30_encoding.md section 3). That it is the
decoder that rejects such a field, and with that cause and frame, is the model's choice (log entry 9). -/
def Obligations.FieldChecksNameTheCause : Prop :=
  (∀ (k : Fin 4) (w : Nat), w < 256 →
    decode (.fn (.addrField k)) w =
      if w = 0xA0 + k.val then .ok (addressPattern k) else .error (.checkFailed .addressMismatch k)) ∧
  (∀ (k : Fin 3) (w : Nat), w < 512 →
    ((∃ i, decode (.fn (.digitField k)) w = .ok i) ↔
      w / 2 % 128 ∈ [0x7D, 0x05, 0x6B, 0x4F, 0x17, 0x5E, 0x7E, 0x0D, 0x7F, 0x5F]) ∧
    (w / 2 % 128 ∉ [0x7D, 0x05, 0x6B, 0x4F, 0x17, 0x5E, 0x7E, 0x0D, 0x7F, 0x5F] →
      decode (.fn (.digitField k)) w = .error (.checkFailed .invalidDigit k.castSucc))) ∧
  (∀ w : Nat, w < 512 →
    decode (.fn .sentinelField) w =
      if w = 0x20 then .ok .sentinel else .error (.checkFailed .sentinelMismatch 3))

/-- A word of the opcode table placed for the next step is what that step runs (log entry 5: which channel a bare
table word belongs to is the model's choice). -/
def Obligations.PlacedTableWordIsRunNext : Prop :=
  ∀ (s : State) (nbits w : Nat) (i : Instr), decodeTableWord nbits w = some i →
    ∃ t, fetch (s.withFetchWord nbits w) = .run i t ∧ step (s.withFetchWord nbits w) = exec i t

/-! ## One step -/

/-- A step runs the decoded operation: on a tick the one of the sequencer's dispatch word, on a falling edge the one of
the sampler's (with the level the edge brings on the data line), on a call by itself the one of its operand word (that
there are such calls is the model's choice, log entry 7). With no event listed, the step is the one that the next stretch
of the free bus begins with: any finite number of stimuli and then a tick (the model's choice, log entry 4). -/
def Obligations.StepRunsTheDecodedOperation : Prop :=
  ∀ (s : State) (es : List Event) (i : Instr),
    (s.events = .tick :: es → s.resetAsserted = false →
      decode .sequencer s.sequencerWord.toNat = .ok i → step s = exec i { s with events := es }) ∧
    (s.events = [] →
      step s = step { s with events := freeStretch s.freeTicks, freeTicks := s.freeTicks + 1 } ∧
      ∃ xs : List Stimulus, freeStretch s.freeTicks = xs.map eventOf ++ [.tick]) ∧
    (∀ l, s.events = .clkFall l :: es → s.resetAsserted = false →
      decode .sampler ({ s with dataLine := l }).samplerWord.toNat = .ok i →
        step s = exec i { s with events := es, dataLine := l }) ∧
    (∀ fn w, s.events = .eval fn w :: es → decode (.fn fn) w = .ok i → step s = exec i { s with events := es })

/-- A call by itself whose word is rejected answers with the decode error of the slot, or with "not accepted"; a word
too wide for its operand is refused (log entry 7: such calls are the model's own). -/
def Obligations.RejectedCallAnswersItsCause : Prop :=
  ∀ (s : State) (es : List Event) (fn : FnChannel) (w : Nat), s.events = .eval fn w :: es →
    (∀ c k, decode (.fn fn) w = .error (.checkFailed c k) →
      step s = .next { s with events := es, result := some (.decodeError c k) }) ∧
    (decode (.fn fn) w = .error .notAccepted →
      step s = .next { s with events := es, result := some .notAccepted }) ∧
    (2 ^ (Channel.fn fn).width ≤ w → step s = .refused (.operandTooWide (Channel.fn fn).width w))

/-- While `reset` is asserted ticks and clock edges do nothing; asserting it puts every register at its reset value and
emits no Report; releasing it changes nothing else (spec/70_reset_and_hazards.md section 1, decision D15). -/
def Obligations.ResetHoldsAndAbandons : Prop :=
  ∀ (s : State) (es : List Event),
    (s.resetAsserted = true → s.events = .tick :: es → step s = .next { s with events := es }) ∧
    (∀ l, s.resetAsserted = true → s.events = .clkFall l :: es →
      step s = .next { s with events := es, dataLine := l }) ∧
    (s.events = .reset true :: es →
      step s = .next { s with
        events := es, resetAsserted := true, buf := [], cursor := 0#7, capState := .idle, samplerEn := false,
        settleCnt := 0, budgetCnt := 0 }) ∧
    (s.events = .reset false :: es → step s = .next { s with events := es, resetAsserted := false })

/-- A level change of the frame-indicator or data line changes that line and nothing else. `frame_active` is true after one
exactly when the line has the level of the strap FRAME_ACTIVE_LEVEL, and data is 1 exactly when its line is high; the
strap's default is low, so by default the indicator is asserted low (spec/10_state.md section 6, decisions D3, D18). -/
def Obligations.LevelChangesTouchOnlyTheirLine : Prop :=
  ∀ (s : State) (es : List Event) (l : Level),
    (s.events = .frameLine l :: es →
      ∃ t, step s = .next t ∧ t = { s with events := es, frameLine := l } ∧
        (t.frameActive = true ↔ l = s.straps.frameActiveLevel)) ∧
    (s.events = .dataLine l :: es →
      ∃ t, step s = .next t ∧ t = { s with events := es, dataLine := l } ∧
        (t.samplerWord.getLsbD 0 = true ↔ l = .high)) ∧
    Straps.default.frameActiveLevel = .low

/-- The operation of the first tick after reset is CYCLE_START, whatever comes after it, and reset itself has emitted no
Report (spec/70_reset_and_hazards.md section 1). -/
def Obligations.FirstStepAfterResetIsCycleStart : Prop :=
  State.reset.reports = [] ∧ ∀ es : List Event,
    step { State.reset with events := .tick :: es } = .next { State.reset with events := es, capState := .busWait }

/-! ## The sequencer's operations -/

/-- R120: each tick performs exactly the operation of the transition table and leaves the state the table names, and
no event but a tick or a reset changes `cap_state`. -/
def Obligations.TickFollowsTheTransitionTable : Prop :=
  (∀ (s : State) (es : List Event), s.resetAsserted = false → s.events = .tick :: es →
    decode .sequencer s.sequencerWord.toNat = .ok
      (match s.capState with
        | .idle => .cycleStart s.frameActive s.settleDone s.captureFull s.budgetGone
        | .busWait =>
          if s.frameActive then .busWait s.settleDone s.captureFull s.budgetGone
          else .busIdle s.settleDone s.captureFull s.budgetGone
        | .settle =>
          if s.settleDone then .arm s.frameActive s.captureFull s.budgetGone
          else .settleWait s.frameActive s.captureFull s.budgetGone
        | .capturing =>
          if s.captureFull then .captureDone s.frameActive s.settleDone s.budgetGone
          else if s.budgetGone then .captureTimeout s.frameActive s.settleDone
          else .poll s.frameActive s.settleDone
        | .complete => .decodeReport s.frameActive s.settleDone s.captureFull s.budgetGone
        | .timedOut => .timeoutReport s.frameActive s.settleDone s.captureFull s.budgetGone
        | .reserved110 => .stateFault false s.frameActive s.settleDone s.captureFull s.budgetGone
        | .reserved111 => .stateFault true s.frameActive s.settleDone s.captureFull s.budgetGone) ∧
    ∃ t, step s = .next t ∧ t.capState =
      (match s.capState with
        | .idle => .busWait
        | .busWait => if s.frameActive then .busWait else .settle
        | .settle => if s.settleDone then .capturing else .settle
        | .capturing => if s.captureFull then .complete else if s.budgetGone then .timedOut else .capturing
        | .complete => .idle
        | .timedOut => .idle
        | .reserved110 => .idle
        | .reserved111 => .idle)) ∧
  (∀ s t, s.nextEvent ≠ .tick → (∀ b, s.nextEvent ≠ .reset b) → step s = .next t → t.capState = s.capState)

/-- CYCLE_START: cursor 0, every cell 0, BusWait, and nothing else (spec/41_packet_capture.md section 2, decision D6). -/
def Obligations.CycleStartClearsBufferAndCursor : Prop :=
  ∀ (f z c b : Bool) (s : State), s.capState = .idle →
    ∃ t, exec (.cycleStart f z c b) s = .next t ∧
      t = { s with cursor := 0#7, buf := [], capState := .busWait } ∧ ∀ a, Memory.byteAt t.buf a = 0#8

/-- R122: BUS_WAIT changes nothing, and while the frame indicator stays asserted the block stays in BusWait for as
long as ticks, edges and data-line changes come, with no Report and no timeout. -/
def Obligations.BusWaitHangsWhileFrameAsserted : Prop :=
  (∀ (z c b : Bool) (s : State), s.capState = .busWait → s.frameActive = true →
    exec (.busWait z c b) s = .next s) ∧
  (∀ (es rest : List Event) (s : State), s.capState = .busWait → s.frameActive = true → s.resetAsserted = false →
    s.samplerEn = false → s.events = es ++ rest →
    (∀ e ∈ es, e = .tick ∨ (∃ l, e = .clkFall l) ∨ ∃ l, e = .dataLine l) →
    ∃ l, steps es.length s = .next { s with events := rest, dataLine := l })

/-- BUS_IDLE: loads the settle counter and goes to Settle (spec/41_packet_capture.md section 3, decisions D4, D8). -/
def Obligations.BusIdleLoadsSettleCounter : Prop :=
  ∀ (z c b : Bool) (s : State), s.capState = .busWait → s.frameActive = false →
    exec (.busIdle z c b) s = .next { s with settleCnt := s.straps.settleTicks, capState := .settle }

/-- SETTLE_WAIT: decrements the settle counter, which does not wrap (spec/41_packet_capture.md section 4, D8). -/
def Obligations.SettleWaitCountsDown : Prop :=
  ∀ (f c b : Bool) (s : State), s.capState = .settle → s.settleCnt ≠ 0 →
    ∃ n, s.settleCnt = n + 1 ∧ exec (.settleWait f c b) s = .next { s with settleCnt := n }

/-- R126: ARM loads the budget, opens the gate and goes to Capturing without looking at the frame indicator. Between
windows the cursor is 0 and every cell is 0, so the first edge after ARM stores into cell 0. -/
def Obligations.ArmOpensTheWindow : Prop :=
  ∀ (f c b : Bool) (s : State), s.capState = .settle → s.settleCnt = 0 →
    ∃ t, exec (.arm f c b) s = .next t ∧
      t = { s with budgetCnt := s.straps.budgetTicks, samplerEn := true, capState := .capturing } ∧
      (Safe s → t.cursor = 0#7 ∧ (∀ a < t.expected, Memory.bit t.buf a = false) ∧
        ∀ d, ∃ u, exec (.sample d) t = .next u ∧ Memory.bit u.buf 0 = d ∧ u.cursor = 1#7)

/-- POLL: decrements the budget; the gate stays open (spec/41_packet_capture.md section 5, decision D8). -/
def Obligations.PollSpendsBudget : Prop :=
  ∀ (f z : Bool) (s : State), s.capState = .capturing → s.cursor.toNat < s.expected → s.budgetCnt ≠ 0 →
    ∃ n, s.budgetCnt = n + 1 ∧ exec (.poll f z) s = .next { s with budgetCnt := n }

/-- CAPTURE_DONE: closes the gate and goes to Complete, whatever the budget counter reads, so a full buffer wins the tie
with the timeout (spec/41_packet_capture.md section 5, decision D7). -/
def Obligations.CaptureDoneWinsTheTie : Prop :=
  ∀ (f z b : Bool) (s : State), s.capState = .capturing → s.cursor.toNat = s.expected →
    exec (.captureDone f z b) s = .next { s with samplerEn := false, capState := .complete } ∧
    ∀ (es : List Event), s.resetAsserted = false → s.events = .tick :: es →
      step s = .next { s with events := es, samplerEn := false, capState := .complete }

/-- R129: CAPTURE_TIMEOUT closes the gate and goes to TimedOut, at any cursor below EXPECTED_BITS, 0 included; cursor and
partial contents stay. -/
def Obligations.CaptureTimeoutKeepsPartialContents : Prop :=
  ∀ (f z : Bool) (s : State), s.capState = .capturing → s.cursor.toNat < s.expected → s.budgetCnt = 0 →
    exec (.captureTimeout f z) s = .next { s with samplerEn := false, capState := .timedOut }

/-- DECODE_REPORT: RESOLVE of the buffer as captured is emitted, then every cell is 0 and the state is Idle; the cursor
stays (spec/41_packet_capture.md section 6, decision D16). -/
def Obligations.DecodeReportEmitsTheResolvedReport : Prop :=
  ∀ (f z c b : Bool) (s : State), s.capState = .complete →
    ∃ t, exec (.decodeReport f z c b) s = .next t ∧
      t = { s with
        reports := s.reports ++ [resolveCells ((List.range s.expected).map (Memory.bit s.buf)) s.header],
        buf := [], capState := .idle } ∧
      ∀ a, Memory.byteAt t.buf a = 0#8

/-- R132: TIMEOUT_REPORT emits the CaptureTimeout record whatever the partial buffer holds, clears every cell and goes to
Idle; the cursor stays until the next CYCLE_START puts it to 0. -/
def Obligations.TimeoutReportSkipsDecodeAndClears : Prop :=
  ∀ (f z c b : Bool) (s : State), s.capState = .timedOut →
    ∃ t, exec (.timeoutReport f z c b) s = .next t ∧
      t = { s with
        reports := s.reports ++ [⟨true, 0#14, .captureTimeout, 0, false⟩], buf := [], capState := .idle } ∧
      (∀ a, Memory.byteAt t.buf a = 0#8) ∧
      ∃ u, exec (.cycleStart f z c b) t = .next u ∧ t.cursor = s.cursor ∧ u.cursor = 0#7

/-- STATE_FAULT: a reserved code recovers to Idle with the gate closed and no Report
(spec/41_packet_capture.md section 6, decision D23). -/
def Obligations.StateFaultRecoversToIdle : Prop :=
  ∀ (s0 f z c b : Bool) (s : State), s.capState = .reserved110 ∨ s.capState = .reserved111 →
    exec (.stateFault s0 f z c b) s = .next { s with samplerEn := false, capState := .idle }

/-- Outside the condition its dispatch word gives it, an operation of the sequencer or the sampler is refused by name: it
has no effect to take (log entry 6: the model's choice). -/
def Obligations.UndispatchedOperationsAreRefused : Prop :=
  ∀ (s0 f z c b d l : Bool) (s : State),
    (s.capState ≠ .idle → exec (.cycleStart f z c b) s = .refused (.notDispatched "CYCLE_START")) ∧
    (¬(s.capState = .busWait ∧ s.frameActive = true) →
      exec (.busWait z c b) s = .refused (.notDispatched "BUS_WAIT")) ∧
    (¬(s.capState = .busWait ∧ s.frameActive = false) →
      exec (.busIdle z c b) s = .refused (.notDispatched "BUS_IDLE")) ∧
    (¬(s.capState = .settle ∧ s.settleCnt ≠ 0) →
      exec (.settleWait f c b) s = .refused (.notDispatched "SETTLE_WAIT")) ∧
    (¬(s.capState = .settle ∧ s.settleCnt = 0) → exec (.arm f c b) s = .refused (.notDispatched "ARM")) ∧
    (¬(s.capState = .capturing ∧ s.cursor.toNat ≠ s.expected ∧ s.budgetCnt ≠ 0) →
      exec (.poll f z) s = .refused (.notDispatched "POLL")) ∧
    (¬(s.capState = .capturing ∧ s.cursor.toNat = s.expected) →
      exec (.captureDone f z b) s = .refused (.notDispatched "CAPTURE_DONE")) ∧
    (¬(s.capState = .capturing ∧ s.cursor.toNat ≠ s.expected ∧ s.budgetCnt = 0) →
      exec (.captureTimeout f z) s = .refused (.notDispatched "CAPTURE_TIMEOUT")) ∧
    (s.capState ≠ .complete → exec (.decodeReport f z c b) s = .refused (.notDispatched "DECODE_REPORT")) ∧
    (s.capState ≠ .timedOut → exec (.timeoutReport f z c b) s = .refused (.notDispatched "TIMEOUT_REPORT")) ∧
    (s.capState ≠ .reserved110 → s.capState ≠ .reserved111 →
      exec (.stateFault s0 f z c b) s = .refused (.notDispatched "STATE_FAULT")) ∧
    (¬(s.samplerEn = true ∧ s.cursor.toNat < s.expected) →
      exec (.sample d) s = .refused (.notDispatched "SAMPLE")) ∧
    (¬(s.samplerEn = true ∧ s.expected ≤ s.cursor.toNat) →
      exec (.edgeDropFull d) s = .refused (.notDispatched "EDGE_DROP_FULL")) ∧
    (s.samplerEn = true → exec (.edgeDropOff l d) s = .refused (.notDispatched "EDGE_DROP_OFF"))

/-! ## The sampler's operations -/

/-- R110: SAMPLE stores the level at the cursor and advances the cursor by one; no other cell and no other field changes.
The edge that fills the last cell is accepted. -/
def Obligations.SampleStoresAtCursorAndAdvances : Prop :=
  ∀ (d : Bool) (s : State), s.samplerEn = true → s.cursor.toNat < s.expected →
    ∃ m v,
      exec (.sample d) s = .next { s with buf := m, cursor := v } ∧
      v.toNat = s.cursor.toNat + 1 ∧ Memory.bit m s.cursor.toNat = d ∧
      (∀ a, a ≠ s.cursor.toNat → Memory.byteAt m a = Memory.byteAt s.buf a) ∧
      ∀ (l : Level) (es : List Event), l.isHigh = d → s.resetAsserted = false → s.events = .clkFall l :: es →
        step s = .next { s with events := es, dataLine := l, buf := m, cursor := v }

/-- An edge with the gate open and the buffer full, or with the gate closed, changes nothing but the data line's level it
comes with, and is not remembered (spec/40_bit_sampler.md, EDGE_DROP_FULL and EDGE_DROP_OFF, decisions D2, D19). -/
def Obligations.DroppedEdgesChangeNothing : Prop :=
  ∀ (l d : Bool) (s : State),
    (s.samplerEn = true → s.expected ≤ s.cursor.toNat → exec (.edgeDropFull d) s = .next s) ∧
    (s.samplerEn = false → exec (.edgeDropOff l d) s = .next s) ∧
    ∀ (lv : Level) (es : List Event), s.samplerEn = false ∨ s.expected ≤ s.cursor.toNat →
      s.resetAsserted = false → s.events = .clkFall lv :: es → step s = .next { s with events := es, dataLine := lv }

/-- A clock edge and a tick may come in either order: with one cell left and no budget, edge first completes the
capture, tick first times it out and the edge is lost (spec/40_bit_sampler.md, concurrency, decision D22). -/
def Obligations.LastEdgeAndLastTickInEitherOrder : Prop :=
  ∀ (l : Level) (s : State), s.capState = .capturing → s.samplerEn = true → s.resetAsserted = false →
    s.cursor.toNat + 1 = s.expected → s.budgetCnt = 0 →
    (∃ t, steps 2 { s with events := [.clkFall l, .tick] } = .next t ∧ t.capState = .complete ∧
      t.cursor.toNat = s.expected ∧ Memory.bit t.buf s.cursor.toNat = l.isHigh ∧ t.samplerEn = false) ∧
    steps 2 { s with events := [.tick, .clkFall l] } =
      .next { s with events := [], dataLine := l, capState := .timedOut, samplerEn := false }

/-! ## The extraction functions -/

/-- READ_ADDR with the gate closed: the eight cells from the corrected offset as a binary number, the earliest most
significant; nothing but the answer (log entry 7) changes (spec/42_frame_decoder.md, closed form of READ_ADDR; D13). -/
def Obligations.ReadAddrIsTheEightCellsInOrder : Prop :=
  ∀ (o : BitVec 7) (s : State), s.samplerEn = false → o.toNat ≤ 60 →
    ∃ v : BitVec 8, exec (.readAddr o) s = .next { s with result := some (.addr v) } ∧
      v.toNat = ∑ i ∈ Finset.range 8, (Memory.bit s.buf (s.header + o.toNat + i)).toNat * 2 ^ (7 - i)

/-- READ_DATA is the shift-and-exclusive-or fold over nine cells from seed 0. Nothing is shifted out of nine bits,
so an accumulator of any width from nine bits on, and an unbounded one, gives the same: the nine cells as a binary number,
the earliest most significant (spec/42_frame_decoder.md, READ_DATA and its closed form). That the function can be called by
itself, and where its answer stands, is the model's choice (log entry 7). -/
def Obligations.ReadDataIsTheNineCellsInOrder : Prop :=
  ∀ (o : BitVec 7) (s : State), s.samplerEn = false → o.toNat ≤ 59 →
    ∃ (v : BitVec 9) (cells : List Bool),
      exec (.readData o) s = .next { s with result := some (.data v) } ∧
      cells = (List.range 9).map (fun i => Memory.bit s.buf (s.header + o.toNat + i)) ∧
      v = cells.foldl (fun (a : BitVec 9) b => (a <<< 1) ^^^ (if b then 1#9 else 0#9)) 0#9 ∧
      v.toNat = cells.foldl (fun (a : Nat) b => (a <<< 1) ^^^ b.toNat) 0 ∧
      (∀ w : Nat, 9 ≤ w →
        v.toNat = (cells.foldl (fun (a : BitVec w) b => (a <<< 1) ^^^ BitVec.ofNat w b.toNat) (0#w)).toNat) ∧
      v.toNat = ∑ i ∈ Finset.range 9, (Memory.bit s.buf (s.header + o.toNat + i)).toNat * 2 ^ (8 - i)

/-- A call outside the precondition has no value: it is refused, in every state
(spec/42_frame_decoder.md, precondition, decision D17). -/
def Obligations.OutOfRangeReadsAreRefused : Prop :=
  ∀ (o : BitVec 7) (s : State),
    (60 < o.toNat → exec (.readAddr o) s = .refused (.offsetOutOfRange o)) ∧
    (59 < o.toNat → exec (.readData o) s = .refused (.offsetOutOfRange o))

/-- With the gate open a read by itself still completes: the cells below the cursor are read as they are, the others have
any value (spec/93_implementation_defined.md U6; log entry 8: the model's choice), and only the answer and the count of
such reads change. -/
def Obligations.ReadsWithTheGateOpenComplete : Prop :=
  ∀ (o : BitVec 7) (s : State), s.samplerEn = true →
    (o.toNat ≤ 60 → ∃ v : BitVec 8,
      exec (.readAddr o) s = .next { s with result := some (.addr v), raceCount := s.raceCount + 1 } ∧
      ∀ i < 8, s.header + o.toNat + i < s.cursor.toNat →
        v.getMsbD i = Memory.bit s.buf (s.header + o.toNat + i)) ∧
    (o.toNat ≤ 59 → ∃ v : BitVec 9,
      exec (.readData o) s = .next { s with result := some (.data v), raceCount := s.raceCount + 1 } ∧
      ∀ i < 9, s.header + o.toNat + i < s.cursor.toNat →
        v.getMsbD i = Memory.bit s.buf (s.header + o.toNat + i))

/-- The folds are injective, so they are order-sensitive: two different sequences of cells give two different values.
The seed of the address fold is shifted out: any seed gives the same eight bits (spec/42_frame_decoder.md, order
sensitivity and the seed of READ_ADDR; decision D13). -/
def Obligations.FoldsAreInjectiveAndLoseTheSeed : Prop :=
  (∀ x y : List Bool, x.length = 8 → y.length = 8 → foldAddress x = foldAddress y → x = y) ∧
  (∀ x y : List Bool, x.length = 9 → y.length = 9 → foldData x = foldData y → x = y) ∧
  ∀ (seed : BitVec 8) (x : List Bool), x.length = 8 →
    x.foldl (fun (v : BitVec 8) b => (v <<< 1) ^^^ (BitVec.ofBool b).setWidth 8) seed = foldAddress x

/-! ## The digit functions and the field patterns -/

/-- DIGIT looks up bits 7 to 1 of the data value in the ten-entry table; any other pattern gives (0, 0)
(spec/43_digit_mapper.md, DIGIT). That it can be called by itself, and where its answer stands, is the model's choice (log
entry 7); nothing else changes. -/
def Obligations.DigitLooksUpTheSegmentPattern : Prop :=
  ∀ (t : Bool) (p : BitVec 7) (stop : Bool) (s : State),
    exec (.digit t p stop) s = .next { s with
      result := some (
        if p = 0x7D#7 then .digit true 0#4
        else if p = 0x05#7 then .digit true 1#4
        else if p = 0x6B#7 then .digit true 2#4
        else if p = 0x4F#7 then .digit true 3#4
        else if p = 0x17#7 then .digit true 4#4
        else if p = 0x5E#7 then .digit true 5#4
        else if p = 0x7E#7 then .digit true 6#4
        else if p = 0x0D#7 then .digit true 7#4
        else if p = 0x7F#7 then .digit true 8#4
        else if p = 0x5F#7 then .digit true 9#4
        else .digit false 0#4) } ∧
    patternOf (dataValue t p stop) = p ∧
    (dataValue t p stop).toNat = 256 * t.toNat + 2 * p.toNat + stop.toNat

/-- STOPFLAG is the lowest bit of the data value (spec/43_digit_mapper.md, STOPFLAG). That it can be called by itself, and
where its answer stands, is the model's choice (log entry 7); nothing else changes. -/
def Obligations.StopFlagIsTheLowestBit : Prop :=
  (∀ (t : Bool) (p : BitVec 7) (stop : Bool) (s : State),
    exec (.stopFlag t p stop) s = .next { s with result := some (.stop stop) } ∧
      (dataValue t p stop).getLsbD 0 = stop) ∧
  (∀ d : BitVec 9, stopFlagOf d = d.getLsbD 0) ∧ stopFlagOf 0x0FB#9 = true ∧ stopFlagOf 0x0FA#9 = false

/-- The constant field patterns: an address or sentinel pattern answers that the check of its own frame passed, a digit
pattern its numeral, whatever the two free bits (spec/30_encoding.md section 3; log entry 9: that the answer goes to
`result` is the model's choice). -/
def Obligations.FieldPatternsAnswerTheirCheck : Prop :=
  ∀ (t stop : Bool) (s : State),
    exec .addrFrame0 s = .next { s with result := some (.addressMatch 0) } ∧
    exec .addrFrame1 s = .next { s with result := some (.addressMatch 1) } ∧
    exec .addrFrame2 s = .next { s with result := some (.addressMatch 2) } ∧
    exec .addrFrame3 s = .next { s with result := some (.addressMatch 3) } ∧
    exec .sentinel s = .next { s with result := some .sentinelMatch } ∧
    exec (.digit0 t stop) s = .next { s with result := some (.digit true 0#4) } ∧
    exec (.digit1 t stop) s = .next { s with result := some (.digit true 1#4) } ∧
    exec (.digit2 t stop) s = .next { s with result := some (.digit true 2#4) } ∧
    exec (.digit3 t stop) s = .next { s with result := some (.digit true 3#4) } ∧
    exec (.digit4 t stop) s = .next { s with result := some (.digit true 4#4) } ∧
    exec (.digit5 t stop) s = .next { s with result := some (.digit true 5#4) } ∧
    exec (.digit6 t stop) s = .next { s with result := some (.digit true 6#4) } ∧
    exec (.digit7 t stop) s = .next { s with result := some (.digit true 7#4) } ∧
    exec (.digit8 t stop) s = .next { s with result := some (.digit true 8#4) } ∧
    exec (.digit9 t stop) s = .next { s with result := some (.digit true 9#4) }

/-! ## The resolver -/

/-- R180 and R184: RESOLVE of a buffer of the right length runs the eight checks in order and answers the first that
fails, or the weighted sum with frame 2's stop flag; frame 3 is only compared. -/
def Obligations.ResolveRunsTheChecksInOrder : Prop :=
  ∀ (v : Variant) (cells : List Bool), cells.length = expectedBits v →
    ∃ (a0 a1 a2 a3 : BitVec 8) (d0 d1 d2 d3 : BitVec 9),
      readAddrAt cells (headerBits v) 0 = some a0 ∧ readDataAt cells (headerBits v) 8 = some d0 ∧
      readAddrAt cells (headerBits v) 17 = some a1 ∧ readDataAt cells (headerBits v) 25 = some d1 ∧
      readAddrAt cells (headerBits v) 34 = some a2 ∧ readDataAt cells (headerBits v) 42 = some d2 ∧
      readAddrAt cells (headerBits v) 51 = some a3 ∧ readDataAt cells (headerBits v) 59 = some d3 ∧
      resolveCells cells (headerBits v) =
        if a0 ≠ 0xA0#8 then ⟨true, 0#14, .addressMismatch, 0, false⟩
        else if (digitOf d0).1 = false then ⟨true, 0#14, .invalidDigit, 0, false⟩
        else if a1 ≠ 0xA1#8 then ⟨true, 0#14, .addressMismatch, 1, false⟩
        else if (digitOf d1).1 = false then ⟨true, 0#14, .invalidDigit, 1, false⟩
        else if a2 ≠ 0xA2#8 then ⟨true, 0#14, .addressMismatch, 2, false⟩
        else if (digitOf d2).1 = false then ⟨true, 0#14, .invalidDigit, 2, false⟩
        else if a3 ≠ 0xA3#8 then ⟨true, 0#14, .addressMismatch, 3, false⟩
        else if d3 ≠ 0x020#9 then ⟨true, 0#14, .sentinelMismatch, 3, false⟩
        else ⟨false, BitVec.ofNat 14 ((digitOf d0).2.toNat * 1000 + (digitOf d1).2.toNat * 100 +
          (digitOf d2).2.toNat * 10), .none, 0, d2.getLsbD 0⟩

/-- RESOLVE by itself: the record of the four frames of its operand, in either variant; nothing else changes
(spec/44_rpm_resolver.md; spec/30_encoding.md section 4; log entry 7). -/
def Obligations.ResolveByItselfAnswersTheRecord : Prop :=
  ∀ (k : Packet) (s : State),
    exec (.resolve k) s = .next { s with
      result := some (.report (
        if k.a ≠ 0xA0#8 then ⟨true, 0#14, .addressMismatch, 0, false⟩
        else if (digitOf k.d).1 = false then ⟨true, 0#14, .invalidDigit, 0, false⟩
        else if k.b ≠ 0xA1#8 then ⟨true, 0#14, .addressMismatch, 1, false⟩
        else if (digitOf k.e).1 = false then ⟨true, 0#14, .invalidDigit, 1, false⟩
        else if k.c ≠ 0xA2#8 then ⟨true, 0#14, .addressMismatch, 2, false⟩
        else if (digitOf k.f).1 = false then ⟨true, 0#14, .invalidDigit, 2, false⟩
        else if k.g ≠ 0xA3#8 then ⟨true, 0#14, .addressMismatch, 3, false⟩
        else if k.h ≠ 0x020#9 then ⟨true, 0#14, .sentinelMismatch, 3, false⟩
        else ⟨false, BitVec.ofNat 14 ((digitOf k.d).2.toNat * 1000 + (digitOf k.e).2.toNat * 100 +
          (digitOf k.f).2.toNat * 10), .none, 0, k.f.getLsbD 0⟩)) }

/-- PACKET_ACCEPTED answers the reading of its three patterns, the same record RESOLVE answers for that packet, whatever
the free bits; with a pattern outside the table it answers that the packet is not accepted
(spec/44_rpm_resolver.md, what RESOLVE accepts; log entries 7 and 9: where the answer stands, and what it is outside the
accepted set, is the model's choice). -/
def Obligations.AcceptedPacketAnswersItsReading : Prop :=
  ∀ (u x v y w stop : Bool) (s : State),
    (∀ n0 n1 n2 : Fin 10, ∃ r : Report,
      r = ⟨false, BitVec.ofNat 14 (1000 * n0.val + 100 * n1.val + 10 * n2.val), .none, 0, stop⟩ ∧
      exec (.packetAccepted u (patternOfDigit n0) x v (patternOfDigit n1) y w (patternOfDigit n2) stop) s =
        .next { s with result := some (.report r) } ∧
      exec (.resolve (acceptedPacket u (patternOfDigit n0) x v (patternOfDigit n1) y w (patternOfDigit n2) stop)) s =
        .next { s with result := some (.report r) }) ∧
    (∀ p q r : BitVec 7, (∀ n, p ≠ patternOfDigit n) ∨ (∀ n, q ≠ patternOfDigit n) ∨ (∀ n, r ≠ patternOfDigit n) →
      exec (.packetAccepted u p x v q y w r stop) s = .next { s with result := some .notAccepted })

/-- A buffer yields `err = 0` if and only if its checked cells spell the four addresses, three table patterns and the
sentinel; the cells `17k + 8` and `17k + 16` of the digit frames and the header cells are free
(spec/44_rpm_resolver.md, what RESOLVE accepts). -/
def Obligations.ResolveAcceptsExactlyTheValidPackets : Prop :=
  ∀ (v : Variant) (cells : List Bool), cells.length = expectedBits v →
    ((resolveCells cells (headerBits v)).err = false ↔
      (∀ k : Fin 4, (cells.drop (headerBits v + 17 * k.val)).take 8 = wireBits (0xA0#8 + BitVec.ofNat 8 k.val)) ∧
      (∀ k : Fin 3, ∃ n : Fin 10,
        (cells.drop (headerBits v + 17 * k.val + 9)).take 7 = wireBits (patternOfDigit n)) ∧
      (cells.drop (headerBits v + 59)).take 9 = wireBits 0x020#9)

/-- R187: a valid packet of three digits gives `d1*1000 + d2*100 + d3*10`, behind any header, in both variants, 0 for an
all-zero readout; any validation failure gives a decode error, a record that no reading equals. -/
def Obligations.ResolveReadsThreeDigits : Prop :=
  (∀ (v : Variant) (hdr : List Bool) (d1 d2 d3 : Fin 10) (stop : Bool), hdr.length = headerBits v →
    ∃ r : Report, resolveCells (hdr ++ packetCells (dig d1 d2 d3 stop)) (headerBits v) = r ∧
      r.err = false ∧ r.rpm.toNat = d1.val * 1000 + d2.val * 100 + d3.val * 10 ∧ r.cause = .none ∧ r.frame = 0 ∧
      r.stop = stop) ∧
  (∀ (v : Variant) (cells : List Bool), cells.length = expectedBits v →
    ((∃ k : Fin 4, readAddrAt cells (headerBits v) (17 * k.val) ≠ some (0xA0#8 + BitVec.ofNat 8 k.val)) ∨
      (∃ (k : Fin 3) (d : BitVec 9),
        readDataAt cells (headerBits v) (17 * k.val + 8) = some d ∧ (digitOf d).1 = false) ∨
      readDataAt cells (headerBits v) 59 ≠ some 0x020#9) →
    (resolveCells cells (headerBits v)).err = true ∧
      ∀ n0 n1 n2 stop, resolveCells cells (headerBits v) ≠ readingReport n0 n1 n2 stop)

/-- R189: three zeros are a valid reading of 0, distinct from every error, that the host shows as "Stopped" whether the
stop flag is set or not. -/
def Obligations.ZeroReadingIsValidAndShownStopped : Prop :=
  ∀ (v : Variant) (hdr : List Bool) (stop : Bool), hdr.length = headerBits v →
    ∃ r : Report, resolveCells (hdr ++ packetCells (dig 0 0 0 stop)) (headerBits v) = r ∧
      r.err = false ∧ r.rpm = 0#14 ∧ r.stop = stop ∧ payloadOf r = .stopped ∧ ∀ c k, r ≠ errorReport c k

/-- R181, R182 and R183: a wrong address in any frame, a pattern outside the table in a digit frame, or a wrong sentinel
makes the result a decode error whatever the other fields hold; and when every check before it passes, it is reported
with its own cause and frame. An all-zero buffer is an address mismatch in frame 0. -/
def Obligations.AnyFailedCheckIsADecodeError : Prop :=
  (∀ (v : Variant) (cells : List Bool), cells.length = expectedBits v →
    (∀ k : Fin 4, readAddrAt cells (headerBits v) (17 * k.val) ≠ some (0xA0#8 + BitVec.ofNat 8 k.val) →
      (resolveCells cells (headerBits v)).err = true ∧
      ((∀ j : Fin 3, j.val < k.val →
          readAddrAt cells (headerBits v) (17 * j.val) = some (0xA0#8 + BitVec.ofNat 8 j.val) ∧
          ∃ d, readDataAt cells (headerBits v) (17 * j.val + 8) = some d ∧ (digitOf d).1 = true) →
        resolveCells cells (headerBits v) = ⟨true, 0#14, .addressMismatch, k, false⟩)) ∧
    (∀ (k : Fin 3) (d : BitVec 9), readDataAt cells (headerBits v) (17 * k.val + 8) = some d → (digitOf d).1 = false →
      (resolveCells cells (headerBits v)).err = true ∧
      ((∀ j : Fin 3, j.val < k.val →
          readAddrAt cells (headerBits v) (17 * j.val) = some (0xA0#8 + BitVec.ofNat 8 j.val) ∧
          ∃ d, readDataAt cells (headerBits v) (17 * j.val + 8) = some d ∧ (digitOf d).1 = true) →
        readAddrAt cells (headerBits v) (17 * k.val) = some (0xA0#8 + BitVec.ofNat 8 k.val) →
        resolveCells cells (headerBits v) = ⟨true, 0#14, .invalidDigit, k.castSucc, false⟩)) ∧
    (readDataAt cells (headerBits v) 59 ≠ some 0x020#9 →
      (resolveCells cells (headerBits v)).err = true ∧
      ((∀ j : Fin 3, readAddrAt cells (headerBits v) (17 * j.val) = some (0xA0#8 + BitVec.ofNat 8 j.val) ∧
          ∃ d, readDataAt cells (headerBits v) (17 * j.val + 8) = some d ∧ (digitOf d).1 = true) →
        readAddrAt cells (headerBits v) 51 = some 0xA3#8 →
        resolveCells cells (headerBits v) = ⟨true, 0#14, .sentinelMismatch, 3, false⟩))) ∧
  (∀ v : Variant, resolveCells (List.replicate (expectedBits v) false) (headerBits v) =
    ⟨true, 0#14, .addressMismatch, 0, false⟩)

/-- Two buffers that differ only in header cells and in the free bits of the digit frames give the same `err` and `rpm`;
if they agree on frame 2's stop flag too, they give the same record (spec/30_encoding.md section 5, ignored bits;
spec/20_memory.md section 4, the header; decision D21). -/
def Obligations.IgnoredBitsReachNoOutput : Prop :=
  ∀ (v : Variant) (x y : List Bool), x.length = expectedBits v → y.length = expectedBits v →
    (∀ i, headerBits v ≤ i → i - headerBits v ∉ [8, 16, 25, 33, 42, 50] → x[i]? = y[i]?) →
    (resolveCells x (headerBits v)).err = (resolveCells y (headerBits v)).err ∧
    (resolveCells x (headerBits v)).rpm = (resolveCells y (headerBits v)).rpm ∧
    (x[headerBits v + 50]? = y[headerBits v + 50]? →
      resolveCells x (headerBits v) = resolveCells y (headerBits v))

/-- The fields of every record RESOLVE can answer: at most 9990 and a multiple of 10; 0 and no stop flag on an error;
the cause is none exactly when there is no error, and a timeout is never RESOLVE's; and the code of each cause
(spec/44_rpm_resolver.md, arithmetic laws; spec/10_state.md section 6, the fields; spec/60_exceptions.md section 1, the
codes; decisions D10, D11). -/
def Obligations.ResolvedRecordFieldsAreLegal : Prop :=
  (∀ (cells : List Bool) (header : Nat) (r : Report), resolveCells cells header = r →
    r.rpm.toNat ≤ 9990 ∧ r.rpm.toNat % 10 = 0 ∧ (r.err = true → r.rpm = 0#14 ∧ r.stop = false) ∧
    (r.err = false ↔ r.cause = .none) ∧ r.cause ≠ .captureTimeout ∧
    (r.err = false → r.frame = 0) ∧ (r.cause = .invalidDigit → r.frame ≠ 3) ∧
    (r.cause = .sentinelMismatch → r.frame = 3)) ∧
  causeCode .none = 0#3 ∧ causeCode .captureTimeout = 1#3 ∧ causeCode .addressMismatch = 2#3 ∧
  causeCode .invalidDigit = 3#3 ∧ causeCode .sentinelMismatch = 4#3

/-- What the host makes of a Report: "err2" on any error, "Stopped" on a reading of 0, else the reading; `cause`,
`frame` and `stop` are not consulted (spec/60_exceptions.md section 8, decision D14). -/
def Obligations.HostPayloadFollowsErrAndRpm : Prop :=
  ∀ r : Report,
    (r.err = true → payloadOf r = .err2) ∧
    (r.err = false → r.rpm = 0#14 → payloadOf r = .stopped) ∧
    (r.err = false → r.rpm ≠ 0#14 → payloadOf r = .reading r.rpm.toNat)

/-! ## Errors -/

/-- R215: what happens on an error. A timeout closes the gate, and on the next tick the error Report is emitted, the
buffer cleared and the state Idle. A decode error is emitted by DECODE_REPORT in place of the reading, with the same
clear and the same Idle. Nothing is saved and nothing else changes. -/
def Obligations.ErrorEntryReportsClearsAndIdles : Prop :=
  (∀ (s : State) (es : List Event), s.resetAsserted = false → s.capState = .capturing → s.cursor.toNat < s.expected →
    s.budgetCnt = 0 → s.events = .tick :: .tick :: es →
    step s = .next { s with events := .tick :: es, samplerEn := false, capState := .timedOut } ∧
    steps 2 s = .next { s with
      events := es, samplerEn := false, capState := .idle, buf := [],
      reports := s.reports ++ [⟨true, 0#14, .captureTimeout, 0, false⟩] }) ∧
  (∀ (s : State) (es : List Event) (c : Cause) (k : Fin 4), s.resetAsserted = false → s.capState = .complete →
    resolveChecks s.cells s.header = .error (c, k) → s.events = .tick :: es →
    (c = .addressMismatch ∨ c = .invalidDigit ∨ c = .sentinelMismatch) ∧
    step s = .next { s with
      events := es, capState := .idle, buf := [], reports := s.reports ++ [⟨true, 0#14, c, k, false⟩] })

/-- No leakage between cycles: what a timed-out window left in the buffer cannot be told from the state after its report
(which keeps the cursor), nor what anything left in the buffer or the cursor from the state after CYCLE_START
(spec/20_memory.md section 8, no leakage). -/
def Obligations.PartialDataDoesNotLeak : Prop :=
  ∀ (f z c b : Bool) (s : State) (m : Memory) (v : BitVec 7),
    (s.capState = .timedOut → ∃ t,
      exec (.timeoutReport f z c b) s = .next t ∧ exec (.timeoutReport f z c b) { s with buf := m } = .next t) ∧
    (s.capState = .idle → ∃ t,
      exec (.cycleStart f z c b) s = .next t ∧
      exec (.cycleStart f z c b) { s with buf := m, cursor := v } = .next t)

/-! ## Every step -/

/-- The invariants hold at reset (spec/10_state.md section 8; spec/70_reset_and_hazards.md section 1). -/
def Obligations.ResetIsSafe : Prop := Safe State.reset

/-- Every step keeps the invariants I1 to I6, the buffer's canonical form and range, the bound of the counters, and the
reset values while `reset` is asserted (spec/10_state.md section 8; the last three are the model's own form of section 5,
of spec/20_memory.md section 2 and of spec/70_reset_and_hazards.md section 1). -/
def Obligations.EveryStepKeepsSafe : Prop :=
  ∀ s t : State, Safe s → step s = .next t → Safe t

/-- R246 and R6: no step changes a strap, and the strap HEADER_BITS, 0 (legacy) or 36 (modern) and nothing else, fixes
EXPECTED_BITS = HEADER_BITS + 68 = 68 or 104, the number of cells of the BitBuffer. -/
def Obligations.NoStepChangesTheStraps : Prop :=
  (∀ s t : State, step s = .next t → t.straps = s.straps ∧ t.header = s.header ∧ t.expected = s.expected) ∧
  headerBits .legacy = 0 ∧ headerBits .modern = 36 ∧ expectedBits .legacy = 68 ∧ expectedBits .modern = 104 ∧
  (∀ n : Nat, (∃ v, headerBits v = n) ↔ n = 0 ∨ n = 36) ∧
  ∀ s : State, s.header = headerBits s.straps.variant ∧ s.expected = s.header + 68 ∧ s.cells.length = s.expected

/-- No step faults, and a step refuses only a call by itself: an offset out of range or an operand too wide
(spec/60_exceptions.md, conditions that are not errors; log entries 6 and 7: the model's choice). A step takes one event off
its list, and when the list has run out, the free bus goes on without end and the sequencer keeps ticking: after finitely
many steps a tick comes, and after it the list has run out again (spec/70_reset_and_hazards.md section 4, fairness; log
entry 4: the model's choice of form). -/
def Obligations.StepNeverFaultsAndRefusesOnlyBadCalls : Prop :=
  (∀ s : State, (∀ r, step s ≠ .fault r) ∧
    ∀ r, step s = .refused r → ∃ fn w es, s.events = .eval fn w :: es ∧
      ((r = .operandTooWide (Channel.fn fn).width w ∧ 2 ^ (Channel.fn fn).width ≤ w) ∨
        (r = .offsetOutOfRange (BitVec.ofNat 7 w) ∧ w < 128 ∧
          ((fn = .readAddr ∧ 60 < w) ∨ (fn = .readData ∧ 59 < w))))) ∧
  (∀ (s t : State) (e : Event) (es : List Event), s.events = e :: es → step s = .next t →
    t.events = es ∧ t.freeTicks = s.freeTicks) ∧
  ∀ s : State, s.events = [] → ∃ n t u, steps n s = .next t ∧ t.nextEvent = .tick ∧ step t = .next u ∧
    u.events = [] ∧ u.freeTicks = s.freeTicks + 1

/-- R251: whatever leaves Capturing closes the gate in the same step. -/
def Obligations.LeavingCapturingClosesTheGate : Prop :=
  ∀ s t : State, step s = .next t → s.capState = .capturing → t.capState ≠ .capturing → t.samplerEn = false

/-- The gate is opened only by ARM, and closed only by CAPTURE_DONE, CAPTURE_TIMEOUT, STATE_FAULT or reset
(spec/60_exceptions.md section 2; spec/41_packet_capture.md section 6 for STATE_FAULT). -/
def Obligations.GateChangesOnlyAtItsOperations : Prop :=
  ∀ s t : State, step s = .next t → t.samplerEn ≠ s.samplerEn →
    (s.samplerEn = false ∧ s.capState = .settle ∧ s.settleCnt = 0 ∧ t.capState = .capturing) ∨
    (s.samplerEn = true ∧ s.capState = .capturing ∧ t.capState = .complete ∧ s.cursor.toNat = s.expected) ∨
    (s.samplerEn = true ∧ s.capState = .capturing ∧ t.capState = .timedOut ∧ s.cursor.toNat ≠ s.expected ∧
      s.budgetCnt = 0) ∨
    (s.samplerEn = true ∧ (s.capState = .reserved110 ∨ s.capState = .reserved111) ∧ t.capState = .idle) ∨
    (s.samplerEn = true ∧ s.nextEvent = .reset true)

/-- A step emits at most one Report, only when a cycle ends from Complete or TimedOut to Idle, and never takes one back
(spec/41_packet_capture.md, one report per cycle). -/
def Obligations.ReportsOnlyAtTheEndOfACycle : Prop :=
  ∀ s t : State, step s = .next t →
    t.reports = s.reports ∨
    (∃ r, t.reports = s.reports ++ [r] ∧ t.capState = .idle ∧ s.resetAsserted = false ∧
      ((s.capState = .complete ∧ r = resolveCells s.cells s.header) ∨
        (s.capState = .timedOut ∧ r = errorReport .captureTimeout 0)))

/-- The buffer is written only by an edge with the gate open (one cell, at the cursor, which advances by one) and cleared
only by CYCLE_START, a report operation or reset; the cursor is moved by nothing else
(spec/10_state.md sections 2 and 3; spec/70_reset_and_hazards.md section 1). -/
def Obligations.BufferAndCursorHaveFourWriters : Prop :=
  ∀ s t : State, step s = .next t →
    (t.buf = s.buf ∧ t.cursor = s.cursor) ∨
    ((∃ l, s.nextEvent = .clkFall l) ∧ s.samplerEn = true ∧ s.cursor.toNat < s.expected ∧
      t.cursor.toNat = s.cursor.toNat + 1 ∧
      ∀ a, a ≠ s.cursor.toNat → Memory.byteAt t.buf a = Memory.byteAt s.buf a) ∨
    (s.capState = .idle ∧ t.capState = .busWait ∧ t.buf = [] ∧ t.cursor = 0#7) ∨
    ((s.capState = .complete ∨ s.capState = .timedOut) ∧ t.capState = .idle ∧ t.buf = [] ∧ t.cursor = s.cursor) ∨
    (s.nextEvent = .reset true ∧ t.buf = [] ∧ t.cursor = 0#7)

/-! ## Runs -/

/-- From BusWait with the frame indicator deasserted on a silent bus, the settle delay lasts SETTLE_TICKS + 1 ticks in
Settle, whatever the strap and whatever comes after, and then the window is open
(spec/41_packet_capture.md section 4). -/
def Obligations.SettleDelayLastsItsTicks : Prop :=
  ∀ (s : State) (rest : List Event), s.capState = .busWait → s.frameActive = false → s.resetAsserted = false →
    s.events = ticks (s.straps.settleTicks + 2) ++ rest →
    (∀ n ≤ s.straps.settleTicks, steps (n + 1) s = .next { s with
      events := ticks (s.straps.settleTicks + 1 - n) ++ rest, settleCnt := s.straps.settleTicks - n,
      capState := .settle }) ∧
    steps (s.straps.settleTicks + 2) s = .next { s with
      events := rest, settleCnt := 0, budgetCnt := s.straps.budgetTicks, samplerEn := true, capState := .capturing }

/-- Whatever happens in a window that times out, the ticks before CAPTURE_TIMEOUT are as many as its budget. And it does time
out so: whatever edges and level changes come between the polls, while the edges leave the cursor below EXPECTED_BITS each
tick is a POLL until the budget is spent, and the next tick is CAPTURE_TIMEOUT. With only ticks nothing else changes
(spec/41_packet_capture.md section 5, length of the window). -/
def Obligations.TimedOutWindowSpendsItsBudget : Prop :=
  (∀ (s t : State) (es rest : List Event), s.capState = .capturing → s.resetAsserted = false → s.events = es ++ rest →
    (∀ n ≤ es.length, ∃ u, steps n s = .next u ∧ u.capState = .capturing) →
    steps (es.length + 1) s = .next t → t.capState = .timedOut → es.count .tick = s.budgetCnt) ∧
  (∀ (s : State) (es rest : List Event), s.capState = .capturing → s.samplerEn = true → s.resetAsserted = false →
    s.events = es ++ .tick :: rest → (∀ e ∈ es, e.ofWindow = true) →
    s.cursor.toNat + (edgeLevels es).length < s.expected → es.count .tick = s.budgetCnt →
    (∀ n ≤ es.length, ∃ u, steps n s = .next u ∧
      u = { s with
        events := es.drop n ++ .tick :: rest, budgetCnt := s.budgetCnt - (es.take n).count .tick, cursor := u.cursor,
        buf := u.buf, frameLine := u.frameLine, dataLine := u.dataLine } ∧
      u.cursor.toNat = s.cursor.toNat + (edgeLevels (es.take n)).length ∧
      ∀ a, a < s.cursor.toNat ∨ u.cursor.toNat ≤ a → Memory.byteAt u.buf a = Memory.byteAt s.buf a) ∧
    ∀ u, steps es.length s = .next u →
      steps (es.length + 1) s = .next { u with
        events := rest, budgetCnt := 0, samplerEn := false, capState := .timedOut }) ∧
  (∀ (s : State) (rest : List Event), s.capState = .capturing → s.cursor.toNat < s.expected → s.resetAsserted = false →
    s.events = ticks (s.budgetCnt + 1) ++ rest →
    (∀ n ≤ s.budgetCnt, steps n s = .next { s with
      events := ticks (s.budgetCnt + 1 - n) ++ rest, budgetCnt := s.budgetCnt - n }) ∧
    steps (s.budgetCnt + 1) s = .next { s with
      events := rest, budgetCnt := 0, samplerEn := false, capState := .timedOut })

/-- A silent bus gives one CaptureTimeout Report per cycle of SETTLE_TICKS + BUDGET_TICKS + 5 ticks, for every value of
the two straps, and the block is back in Idle with an empty buffer (spec/70_reset_and_hazards.md section 3, a silent bus;
spec/41_packet_capture.md section 7, progress). -/
def Obligations.SilentBusReportsATimeoutPerCycle : Prop :=
  ∀ (s : State) (rest : List Event), s.capState = .idle → s.frameActive = false → s.resetAsserted = false →
    s.samplerEn = false → s.events = ticks (s.straps.settleTicks + s.straps.budgetTicks + 5) ++ rest →
    steps (s.straps.settleTicks + s.straps.budgetTicks + 5) s = .next { s with
      events := rest, buf := [], cursor := 0#7, settleCnt := 0, budgetCnt := 0,
      reports := s.reports ++ [⟨true, 0#14, .captureTimeout, 0, false⟩] }

/-- The count law: in any window the cursor is the smaller of EXPECTED_BITS and the number of edges since ARM, and each
cell below it holds the level of its edge, whatever polls and level changes come between
(spec/40_bit_sampler.md, the count law). -/
def Obligations.WindowCountsAndKeepsItsEdges : Prop :=
  ∀ (s t : State) (es rest : List Event),
    s.capState = .capturing → s.samplerEn = true → s.resetAsserted = false → s.cursor = 0#7 →
    s.events = es ++ rest → (∀ e ∈ es, e.ofWindow = true) →
    (∀ n ≤ es.length, ∃ u, steps n s = .next u ∧ u.capState = .capturing) →
    steps es.length s = .next t →
    t.cursor.toNat = min s.expected (edgeLevels es).length ∧
    ∀ i < t.cursor.toNat, (edgeLevels es)[i]? = some (Memory.bit t.buf i)

/-- A complete, well-formed packet presented inside the window yields its reading: whatever the header, the free bits of
the digit frames, the stale contents of the buffer, the interleaving of edges with at most the budget of polls, and the level
changes and surplus edges before and between the two ticks that follow the last edge, the second of them puts out the Report
of its three digits and leaves the buffer empty and the block idle (spec/92_eei_decisions.md, the notes on D7, D8 and D22;
spec/44_rpm_resolver.md, the result on success). -/
def Obligations.PacketInTheWindowYieldsItsReading : Prop :=
  ∀ (s : State) (hdr : List Bool) (d1 d2 d3 : Fin 10) (u x v y w stop : Bool) (es late gap rest : List Event) (l : Level),
    s.capState = .capturing → s.samplerEn = true → s.resetAsserted = false → s.cursor = 0#7 →
    hdr.length = s.header →
    s.events = es ++ .clkFall l :: (late ++ .tick :: (gap ++ .tick :: rest)) →
    (∀ e ∈ es, e.ofWindow = true) →
    (∀ e ∈ late ++ gap, e.ofWindow = true ∧ e ≠ .tick) →
    edgeLevels es ++ [l.isHigh] = hdr ++
      packetCells (acceptedPacket u (patternOfDigit d1) x v (patternOfDigit d2) y w (patternOfDigit d3) stop) →
    es.count .tick ≤ s.budgetCnt →
    ∃ t, steps (es.length + late.length + gap.length + 3) s = .next t ∧
      t.reports = s.reports ++
        [⟨false, BitVec.ofNat 14 (d1.val * 1000 + d2.val * 100 + d3.val * 10), .none, 0, stop⟩] ∧
      t.capState = .idle ∧ t.samplerEn = false ∧ t.cursor.toNat = s.expected ∧ t.buf = [] ∧
      t.budgetCnt = s.budgetCnt - es.count .tick ∧ t.settleCnt = s.settleCnt ∧ t.straps = s.straps ∧
      t.events = rest
end

