-- ==== Sys2Proof/Laws/Memory.lean ====
section
/-! SUPPORT. Read after write, and that every memory operation keeps the canonical form. -/

namespace Sys2Proof.Machine

@[simp] theorem Memory.byteAt_cleared (a : Nat) : Memory.byteAt Memory.cleared a = 0#8 := rfl

@[simp] theorem Memory.bit_cleared (a : Nat) : Memory.bit Memory.cleared a = false := by simp [Memory.bit]

@[simp] theorem Memory.byteOf_getLsbD (b : Bool) : (Memory.byteOf b).getLsbD 0 = b := by cases b <;> rfl

theorem Memory.byteOf_ne_unlisted {b : Bool} (h : Memory.byteOf b ≠ Memory.unlisted) : Memory.byteOf b = 1#8 := by
  cases b
  · exact absurd rfl h
  · rfl

theorem Memory.byteAt_eq_unlisted {m : Memory} {a : Nat} (h : ∀ c ∈ m, c.1 ≠ a) :
    Memory.byteAt m a = Memory.unlisted := by
  induction m with
  | nil => rfl
  | cons c m ih =>
    rw [Memory.byteAt, if_neg (h c (by simp)), ih fun d hd => h d (by simp [hd])]

theorem Memory.byteAt_erase_same (m : Memory) (a : Nat) : Memory.byteAt (Memory.erase m a) a = Memory.unlisted :=
  Memory.byteAt_eq_unlisted fun c hc => by simpa [Memory.erase] using (List.mem_filter.1 hc).2

theorem Memory.byteAt_erase_other {m : Memory} {a x : Nat} (h : x ≠ a) :
    Memory.byteAt (Memory.erase m a) x = Memory.byteAt m x := by
  induction m with
  | nil => rfl
  | cons c m ih =>
    by_cases hc : c.1 = a
    · have hx : ¬ c.1 = x := fun e => h (e.symm.trans hc)
      have he : Memory.erase (c :: m) a = Memory.erase m a := by simp [Memory.erase, hc]
      rw [he, ih, Memory.byteAt, if_neg hx]
    · have he : Memory.erase (c :: m) a = c :: Memory.erase m a := by simp [Memory.erase, hc]
      rw [he, Memory.byteAt, Memory.byteAt, ih]

theorem Memory.byteAt_insert_same (m : Memory) (a : Nat) (v : BitVec 8) (h : ∀ c ∈ m, c.1 ≠ a) :
    Memory.byteAt (Memory.insert a v m) a = v := by
  induction m with
  | nil => simp [Memory.insert, Memory.byteAt]
  | cons c m ih =>
    by_cases hc : a < c.1
    · simp [Memory.insert, hc, Memory.byteAt]
    · rw [Memory.insert, if_neg hc, Memory.byteAt, if_neg (h c (by simp)), ih fun d hd => h d (by simp [hd])]

theorem Memory.byteAt_insert_other {m : Memory} {a x : Nat} (v : BitVec 8) (h : x ≠ a) :
    Memory.byteAt (Memory.insert a v m) x = Memory.byteAt m x := by
  induction m with
  | nil => simp [Memory.insert, Memory.byteAt, Ne.symm h]
  | cons c m ih =>
    by_cases hc : a < c.1
    · simp [Memory.insert, hc, Memory.byteAt, Ne.symm h]
    · rw [Memory.insert, if_neg hc, Memory.byteAt, Memory.byteAt, ih]

theorem Memory.mem_erase_ne {m : Memory} {a : Nat} {c : Host.Cell} (h : c ∈ Memory.erase m a) : c.1 ≠ a := by
  simpa [Memory.erase] using (List.mem_filter.1 h).2

theorem Memory.mem_of_mem_erase {m : Memory} {a : Nat} {c : Host.Cell} (h : c ∈ Memory.erase m a) : c ∈ m :=
  (List.mem_filter.1 h).1

/-- A read of the cell just written gives the value written. -/
theorem Memory.byteAt_write_same (m : Memory) (a : Nat) (v : BitVec 8) :
    Memory.byteAt (Memory.write m a v) a = v := by
  unfold Memory.write
  split
  · next h => rw [Memory.byteAt_erase_same, h]
  · exact Memory.byteAt_insert_same _ _ _ fun c hc => Memory.mem_erase_ne hc

/-- A write leaves every other cell as it was. -/
theorem Memory.byteAt_write_other {m : Memory} {a x : Nat} (v : BitVec 8) (h : x ≠ a) :
    Memory.byteAt (Memory.write m a v) x = Memory.byteAt m x := by
  unfold Memory.write
  split
  · exact Memory.byteAt_erase_other h
  · rw [Memory.byteAt_insert_other v h, Memory.byteAt_erase_other h]

theorem Memory.bit_write_same (m : Memory) (a : Nat) (b : Bool) :
    Memory.bit (Memory.write m a (Memory.byteOf b)) a = b := by
  rw [Memory.bit, Memory.byteAt_write_same, Memory.byteOf_getLsbD]

theorem Memory.bit_write_other {m : Memory} {a x : Nat} (v : BitVec 8) (h : x ≠ a) :
    Memory.bit (Memory.write m a v) x = Memory.bit m x := by
  rw [Memory.bit, Memory.byteAt_write_other v h, Memory.bit]

theorem Memory.mem_insert {m : Memory} {a : Nat} {v : BitVec 8} {c : Host.Cell} :
    c ∈ Memory.insert a v m ↔ c = (a, v) ∨ c ∈ m := by
  induction m with
  | nil => simp [Memory.insert]
  | cons d m ih =>
    by_cases hd : a < d.1
    · simp [Memory.insert, hd]
    · simp only [Memory.insert, hd, if_false, List.mem_cons, ih]
      tauto

theorem Memory.cleared_wf : Memory.wf Memory.cleared := by decide

theorem Memory.erase_wf {m : Memory} (h : Memory.wf m) (a : Nat) : Memory.wf (Memory.erase m a) :=
  ⟨h.1.sublist List.filter_sublist, fun c hc => h.2 c (Memory.mem_of_mem_erase hc)⟩

theorem Memory.insert_wf {m : Memory} (h : Memory.wf m) {a : Nat} (ha : ∀ c ∈ m, c.1 ≠ a) :
    Memory.wf (Memory.insert a 1#8 m) := by
  refine ⟨?_, fun c hc => ?_⟩
  · have h1 := h.1
    clear h
    induction m with
    | nil => simp [Memory.insert]
    | cons d m ih =>
      have hd := List.pairwise_cons.1 h1
      by_cases hlt : a < d.1
      · rw [Memory.insert, if_pos hlt]
        refine List.pairwise_cons.2 ⟨fun c hc => ?_, h1⟩
        rcases List.mem_cons.1 hc with rfl | hc
        · exact hlt
        · exact lt_trans hlt (hd.1 c hc)
      · rw [Memory.insert, if_neg hlt]
        refine List.pairwise_cons.2 ⟨fun c hc => ?_, ih (fun c hc => ha c (by simp [hc])) hd.2⟩
        rcases Memory.mem_insert.1 hc with rfl | hc
        · exact lt_of_le_of_ne (not_lt.1 hlt) (ha d (by simp))
        · exact hd.1 c hc
  · rcases Memory.mem_insert.1 hc with rfl | hc
    · rfl
    · exact h.2 c hc

/-- A write of a bit keeps the canonical form. -/
theorem Memory.write_wf {m : Memory} (h : Memory.wf m) (a : Nat) (b : Bool) :
    Memory.wf (Memory.write m a (Memory.byteOf b)) := by
  unfold Memory.write
  split
  · exact Memory.erase_wf h a
  · next hne =>
    rw [Memory.byteOf_ne_unlisted hne]
    exact Memory.insert_wf (Memory.erase_wf h a) fun c hc => Memory.mem_erase_ne hc

/-- A write adds no cell but the one written. -/
theorem Memory.mem_write {m : Memory} {a : Nat} {v : BitVec 8} {c : Host.Cell} (h : c ∈ Memory.write m a v) :
    c.1 = a ∨ c ∈ m := by
  unfold Memory.write at h
  split at h
  · exact .inr (Memory.mem_of_mem_erase h)
  · rcases Memory.mem_insert.1 h with rfl | h
    · exact .inl rfl
    · exact .inr (Memory.mem_of_mem_erase h)

theorem reset_memory_wf : Memory.wf State.reset.buf := Memory.cleared_wf

end Sys2Proof.Machine
end

