-- ==== Sys2Proof/Laws/State.lean ====
section
/-! SUPPORT. One lemma per field per update of the state, true by rfl, so that no proof unfolds an update. -/

namespace Sys2Proof.Machine

variable (s : State)

@[simp] theorem setBuf_buf (m : Memory) : (s.setBuf m).buf = m := rfl
@[simp] theorem setBuf_cursor (m : Memory) : (s.setBuf m).cursor = s.cursor := rfl
@[simp] theorem setBuf_capState (m : Memory) : (s.setBuf m).capState = s.capState := rfl
@[simp] theorem setBuf_samplerEn (m : Memory) : (s.setBuf m).samplerEn = s.samplerEn := rfl
@[simp] theorem setBuf_settleCnt (m : Memory) : (s.setBuf m).settleCnt = s.settleCnt := rfl
@[simp] theorem setBuf_budgetCnt (m : Memory) : (s.setBuf m).budgetCnt = s.budgetCnt := rfl
@[simp] theorem setBuf_resetAsserted (m : Memory) : (s.setBuf m).resetAsserted = s.resetAsserted := rfl
@[simp] theorem setBuf_frameLine (m : Memory) : (s.setBuf m).frameLine = s.frameLine := rfl
@[simp] theorem setBuf_dataLine (m : Memory) : (s.setBuf m).dataLine = s.dataLine := rfl
@[simp] theorem setBuf_straps (m : Memory) : (s.setBuf m).straps = s.straps := rfl
@[simp] theorem setBuf_reports (m : Memory) : (s.setBuf m).reports = s.reports := rfl
@[simp] theorem setBuf_events (m : Memory) : (s.setBuf m).events = s.events := rfl
@[simp] theorem setBuf_freeTicks (m : Memory) : (s.setBuf m).freeTicks = s.freeTicks := rfl
@[simp] theorem setBuf_result (m : Memory) : (s.setBuf m).result = s.result := rfl
@[simp] theorem setBuf_raceCount (m : Memory) : (s.setBuf m).raceCount = s.raceCount := rfl
@[simp] theorem setBuf_header (m : Memory) : (s.setBuf m).header = s.header := rfl
@[simp] theorem setBuf_expected (m : Memory) : (s.setBuf m).expected = s.expected := rfl
@[simp] theorem setBuf_frameActive (m : Memory) : (s.setBuf m).frameActive = s.frameActive := rfl
@[simp] theorem setBuf_settleDone (m : Memory) : (s.setBuf m).settleDone = s.settleDone := rfl
@[simp] theorem setBuf_captureFull (m : Memory) : (s.setBuf m).captureFull = s.captureFull := rfl
@[simp] theorem setBuf_budgetGone (m : Memory) : (s.setBuf m).budgetGone = s.budgetGone := rfl
@[simp] theorem setBuf_hasRoom (m : Memory) : (s.setBuf m).hasRoom = s.hasRoom := rfl

@[simp] theorem setCursor_buf (v : BitVec 7) : (s.setCursor v).buf = s.buf := rfl
@[simp] theorem setCursor_cursor (v : BitVec 7) : (s.setCursor v).cursor = v := rfl
@[simp] theorem setCursor_capState (v : BitVec 7) : (s.setCursor v).capState = s.capState := rfl
@[simp] theorem setCursor_samplerEn (v : BitVec 7) : (s.setCursor v).samplerEn = s.samplerEn := rfl
@[simp] theorem setCursor_settleCnt (v : BitVec 7) : (s.setCursor v).settleCnt = s.settleCnt := rfl
@[simp] theorem setCursor_budgetCnt (v : BitVec 7) : (s.setCursor v).budgetCnt = s.budgetCnt := rfl
@[simp] theorem setCursor_resetAsserted (v : BitVec 7) : (s.setCursor v).resetAsserted = s.resetAsserted := rfl
@[simp] theorem setCursor_frameLine (v : BitVec 7) : (s.setCursor v).frameLine = s.frameLine := rfl
@[simp] theorem setCursor_dataLine (v : BitVec 7) : (s.setCursor v).dataLine = s.dataLine := rfl
@[simp] theorem setCursor_straps (v : BitVec 7) : (s.setCursor v).straps = s.straps := rfl
@[simp] theorem setCursor_reports (v : BitVec 7) : (s.setCursor v).reports = s.reports := rfl
@[simp] theorem setCursor_events (v : BitVec 7) : (s.setCursor v).events = s.events := rfl
@[simp] theorem setCursor_freeTicks (v : BitVec 7) : (s.setCursor v).freeTicks = s.freeTicks := rfl
@[simp] theorem setCursor_result (v : BitVec 7) : (s.setCursor v).result = s.result := rfl
@[simp] theorem setCursor_raceCount (v : BitVec 7) : (s.setCursor v).raceCount = s.raceCount := rfl
@[simp] theorem setCursor_header (v : BitVec 7) : (s.setCursor v).header = s.header := rfl
@[simp] theorem setCursor_expected (v : BitVec 7) : (s.setCursor v).expected = s.expected := rfl
@[simp] theorem setCursor_frameActive (v : BitVec 7) : (s.setCursor v).frameActive = s.frameActive := rfl
@[simp] theorem setCursor_settleDone (v : BitVec 7) : (s.setCursor v).settleDone = s.settleDone := rfl
@[simp] theorem setCursor_budgetGone (v : BitVec 7) : (s.setCursor v).budgetGone = s.budgetGone := rfl
@[simp] theorem setCursor_cells (v : BitVec 7) : (s.setCursor v).cells = s.cells := rfl

@[simp] theorem goto_buf (c : CapState) : (s.goto c).buf = s.buf := rfl
@[simp] theorem goto_cursor (c : CapState) : (s.goto c).cursor = s.cursor := rfl
@[simp] theorem goto_capState (c : CapState) : (s.goto c).capState = c := rfl
@[simp] theorem goto_samplerEn (c : CapState) : (s.goto c).samplerEn = s.samplerEn := rfl
@[simp] theorem goto_settleCnt (c : CapState) : (s.goto c).settleCnt = s.settleCnt := rfl
@[simp] theorem goto_budgetCnt (c : CapState) : (s.goto c).budgetCnt = s.budgetCnt := rfl
@[simp] theorem goto_resetAsserted (c : CapState) : (s.goto c).resetAsserted = s.resetAsserted := rfl
@[simp] theorem goto_frameLine (c : CapState) : (s.goto c).frameLine = s.frameLine := rfl
@[simp] theorem goto_dataLine (c : CapState) : (s.goto c).dataLine = s.dataLine := rfl
@[simp] theorem goto_straps (c : CapState) : (s.goto c).straps = s.straps := rfl
@[simp] theorem goto_reports (c : CapState) : (s.goto c).reports = s.reports := rfl
@[simp] theorem goto_events (c : CapState) : (s.goto c).events = s.events := rfl
@[simp] theorem goto_freeTicks (c : CapState) : (s.goto c).freeTicks = s.freeTicks := rfl
@[simp] theorem goto_result (c : CapState) : (s.goto c).result = s.result := rfl
@[simp] theorem goto_raceCount (c : CapState) : (s.goto c).raceCount = s.raceCount := rfl
@[simp] theorem goto_header (c : CapState) : (s.goto c).header = s.header := rfl
@[simp] theorem goto_expected (c : CapState) : (s.goto c).expected = s.expected := rfl
@[simp] theorem goto_frameActive (c : CapState) : (s.goto c).frameActive = s.frameActive := rfl
@[simp] theorem goto_settleDone (c : CapState) : (s.goto c).settleDone = s.settleDone := rfl
@[simp] theorem goto_captureFull (c : CapState) : (s.goto c).captureFull = s.captureFull := rfl
@[simp] theorem goto_budgetGone (c : CapState) : (s.goto c).budgetGone = s.budgetGone := rfl
@[simp] theorem goto_hasRoom (c : CapState) : (s.goto c).hasRoom = s.hasRoom := rfl
@[simp] theorem goto_cells (c : CapState) : (s.goto c).cells = s.cells := rfl

@[simp] theorem setGate_buf (b : Bool) : (s.setGate b).buf = s.buf := rfl
@[simp] theorem setGate_cursor (b : Bool) : (s.setGate b).cursor = s.cursor := rfl
@[simp] theorem setGate_capState (b : Bool) : (s.setGate b).capState = s.capState := rfl
@[simp] theorem setGate_samplerEn (b : Bool) : (s.setGate b).samplerEn = b := rfl
@[simp] theorem setGate_settleCnt (b : Bool) : (s.setGate b).settleCnt = s.settleCnt := rfl
@[simp] theorem setGate_budgetCnt (b : Bool) : (s.setGate b).budgetCnt = s.budgetCnt := rfl
@[simp] theorem setGate_resetAsserted (b : Bool) : (s.setGate b).resetAsserted = s.resetAsserted := rfl
@[simp] theorem setGate_frameLine (b : Bool) : (s.setGate b).frameLine = s.frameLine := rfl
@[simp] theorem setGate_dataLine (b : Bool) : (s.setGate b).dataLine = s.dataLine := rfl
@[simp] theorem setGate_straps (b : Bool) : (s.setGate b).straps = s.straps := rfl
@[simp] theorem setGate_reports (b : Bool) : (s.setGate b).reports = s.reports := rfl
@[simp] theorem setGate_events (b : Bool) : (s.setGate b).events = s.events := rfl
@[simp] theorem setGate_freeTicks (b : Bool) : (s.setGate b).freeTicks = s.freeTicks := rfl
@[simp] theorem setGate_result (b : Bool) : (s.setGate b).result = s.result := rfl
@[simp] theorem setGate_raceCount (b : Bool) : (s.setGate b).raceCount = s.raceCount := rfl
@[simp] theorem setGate_header (b : Bool) : (s.setGate b).header = s.header := rfl
@[simp] theorem setGate_expected (b : Bool) : (s.setGate b).expected = s.expected := rfl
@[simp] theorem setGate_frameActive (b : Bool) : (s.setGate b).frameActive = s.frameActive := rfl
@[simp] theorem setGate_settleDone (b : Bool) : (s.setGate b).settleDone = s.settleDone := rfl
@[simp] theorem setGate_captureFull (b : Bool) : (s.setGate b).captureFull = s.captureFull := rfl
@[simp] theorem setGate_budgetGone (b : Bool) : (s.setGate b).budgetGone = s.budgetGone := rfl
@[simp] theorem setGate_hasRoom (b : Bool) : (s.setGate b).hasRoom = s.hasRoom := rfl
@[simp] theorem setGate_cells (b : Bool) : (s.setGate b).cells = s.cells := rfl

@[simp] theorem setSettle_buf (n : Nat) : (s.setSettle n).buf = s.buf := rfl
@[simp] theorem setSettle_cursor (n : Nat) : (s.setSettle n).cursor = s.cursor := rfl
@[simp] theorem setSettle_capState (n : Nat) : (s.setSettle n).capState = s.capState := rfl
@[simp] theorem setSettle_samplerEn (n : Nat) : (s.setSettle n).samplerEn = s.samplerEn := rfl
@[simp] theorem setSettle_settleCnt (n : Nat) : (s.setSettle n).settleCnt = n := rfl
@[simp] theorem setSettle_budgetCnt (n : Nat) : (s.setSettle n).budgetCnt = s.budgetCnt := rfl
@[simp] theorem setSettle_resetAsserted (n : Nat) : (s.setSettle n).resetAsserted = s.resetAsserted := rfl
@[simp] theorem setSettle_frameLine (n : Nat) : (s.setSettle n).frameLine = s.frameLine := rfl
@[simp] theorem setSettle_dataLine (n : Nat) : (s.setSettle n).dataLine = s.dataLine := rfl
@[simp] theorem setSettle_straps (n : Nat) : (s.setSettle n).straps = s.straps := rfl
@[simp] theorem setSettle_reports (n : Nat) : (s.setSettle n).reports = s.reports := rfl
@[simp] theorem setSettle_events (n : Nat) : (s.setSettle n).events = s.events := rfl
@[simp] theorem setSettle_freeTicks (n : Nat) : (s.setSettle n).freeTicks = s.freeTicks := rfl
@[simp] theorem setSettle_result (n : Nat) : (s.setSettle n).result = s.result := rfl
@[simp] theorem setSettle_raceCount (n : Nat) : (s.setSettle n).raceCount = s.raceCount := rfl
@[simp] theorem setSettle_header (n : Nat) : (s.setSettle n).header = s.header := rfl
@[simp] theorem setSettle_expected (n : Nat) : (s.setSettle n).expected = s.expected := rfl
@[simp] theorem setSettle_frameActive (n : Nat) : (s.setSettle n).frameActive = s.frameActive := rfl
@[simp] theorem setSettle_captureFull (n : Nat) : (s.setSettle n).captureFull = s.captureFull := rfl
@[simp] theorem setSettle_budgetGone (n : Nat) : (s.setSettle n).budgetGone = s.budgetGone := rfl
@[simp] theorem setSettle_hasRoom (n : Nat) : (s.setSettle n).hasRoom = s.hasRoom := rfl
@[simp] theorem setSettle_cells (n : Nat) : (s.setSettle n).cells = s.cells := rfl

@[simp] theorem setBudget_buf (n : Nat) : (s.setBudget n).buf = s.buf := rfl
@[simp] theorem setBudget_cursor (n : Nat) : (s.setBudget n).cursor = s.cursor := rfl
@[simp] theorem setBudget_capState (n : Nat) : (s.setBudget n).capState = s.capState := rfl
@[simp] theorem setBudget_samplerEn (n : Nat) : (s.setBudget n).samplerEn = s.samplerEn := rfl
@[simp] theorem setBudget_settleCnt (n : Nat) : (s.setBudget n).settleCnt = s.settleCnt := rfl
@[simp] theorem setBudget_budgetCnt (n : Nat) : (s.setBudget n).budgetCnt = n := rfl
@[simp] theorem setBudget_resetAsserted (n : Nat) : (s.setBudget n).resetAsserted = s.resetAsserted := rfl
@[simp] theorem setBudget_frameLine (n : Nat) : (s.setBudget n).frameLine = s.frameLine := rfl
@[simp] theorem setBudget_dataLine (n : Nat) : (s.setBudget n).dataLine = s.dataLine := rfl
@[simp] theorem setBudget_straps (n : Nat) : (s.setBudget n).straps = s.straps := rfl
@[simp] theorem setBudget_reports (n : Nat) : (s.setBudget n).reports = s.reports := rfl
@[simp] theorem setBudget_events (n : Nat) : (s.setBudget n).events = s.events := rfl
@[simp] theorem setBudget_freeTicks (n : Nat) : (s.setBudget n).freeTicks = s.freeTicks := rfl
@[simp] theorem setBudget_result (n : Nat) : (s.setBudget n).result = s.result := rfl
@[simp] theorem setBudget_raceCount (n : Nat) : (s.setBudget n).raceCount = s.raceCount := rfl
@[simp] theorem setBudget_header (n : Nat) : (s.setBudget n).header = s.header := rfl
@[simp] theorem setBudget_expected (n : Nat) : (s.setBudget n).expected = s.expected := rfl
@[simp] theorem setBudget_frameActive (n : Nat) : (s.setBudget n).frameActive = s.frameActive := rfl
@[simp] theorem setBudget_settleDone (n : Nat) : (s.setBudget n).settleDone = s.settleDone := rfl
@[simp] theorem setBudget_captureFull (n : Nat) : (s.setBudget n).captureFull = s.captureFull := rfl
@[simp] theorem setBudget_hasRoom (n : Nat) : (s.setBudget n).hasRoom = s.hasRoom := rfl
@[simp] theorem setBudget_cells (n : Nat) : (s.setBudget n).cells = s.cells := rfl

@[simp] theorem setReset_buf (b : Bool) : (s.setReset b).buf = s.buf := rfl
@[simp] theorem setReset_cursor (b : Bool) : (s.setReset b).cursor = s.cursor := rfl
@[simp] theorem setReset_capState (b : Bool) : (s.setReset b).capState = s.capState := rfl
@[simp] theorem setReset_samplerEn (b : Bool) : (s.setReset b).samplerEn = s.samplerEn := rfl
@[simp] theorem setReset_settleCnt (b : Bool) : (s.setReset b).settleCnt = s.settleCnt := rfl
@[simp] theorem setReset_budgetCnt (b : Bool) : (s.setReset b).budgetCnt = s.budgetCnt := rfl
@[simp] theorem setReset_resetAsserted (b : Bool) : (s.setReset b).resetAsserted = b := rfl
@[simp] theorem setReset_frameLine (b : Bool) : (s.setReset b).frameLine = s.frameLine := rfl
@[simp] theorem setReset_dataLine (b : Bool) : (s.setReset b).dataLine = s.dataLine := rfl
@[simp] theorem setReset_straps (b : Bool) : (s.setReset b).straps = s.straps := rfl
@[simp] theorem setReset_reports (b : Bool) : (s.setReset b).reports = s.reports := rfl
@[simp] theorem setReset_events (b : Bool) : (s.setReset b).events = s.events := rfl
@[simp] theorem setReset_freeTicks (b : Bool) : (s.setReset b).freeTicks = s.freeTicks := rfl
@[simp] theorem setReset_result (b : Bool) : (s.setReset b).result = s.result := rfl
@[simp] theorem setReset_raceCount (b : Bool) : (s.setReset b).raceCount = s.raceCount := rfl
@[simp] theorem setReset_header (b : Bool) : (s.setReset b).header = s.header := rfl
@[simp] theorem setReset_expected (b : Bool) : (s.setReset b).expected = s.expected := rfl
@[simp] theorem setReset_frameActive (b : Bool) : (s.setReset b).frameActive = s.frameActive := rfl
@[simp] theorem setReset_settleDone (b : Bool) : (s.setReset b).settleDone = s.settleDone := rfl
@[simp] theorem setReset_captureFull (b : Bool) : (s.setReset b).captureFull = s.captureFull := rfl
@[simp] theorem setReset_budgetGone (b : Bool) : (s.setReset b).budgetGone = s.budgetGone := rfl
@[simp] theorem setReset_hasRoom (b : Bool) : (s.setReset b).hasRoom = s.hasRoom := rfl
@[simp] theorem setReset_cells (b : Bool) : (s.setReset b).cells = s.cells := rfl

@[simp] theorem setFrameLine_buf (l : Level) : (s.setFrameLine l).buf = s.buf := rfl
@[simp] theorem setFrameLine_cursor (l : Level) : (s.setFrameLine l).cursor = s.cursor := rfl
@[simp] theorem setFrameLine_capState (l : Level) : (s.setFrameLine l).capState = s.capState := rfl
@[simp] theorem setFrameLine_samplerEn (l : Level) : (s.setFrameLine l).samplerEn = s.samplerEn := rfl
@[simp] theorem setFrameLine_settleCnt (l : Level) : (s.setFrameLine l).settleCnt = s.settleCnt := rfl
@[simp] theorem setFrameLine_budgetCnt (l : Level) : (s.setFrameLine l).budgetCnt = s.budgetCnt := rfl
@[simp] theorem setFrameLine_resetAsserted (l : Level) : (s.setFrameLine l).resetAsserted = s.resetAsserted := rfl
@[simp] theorem setFrameLine_frameLine (l : Level) : (s.setFrameLine l).frameLine = l := rfl
@[simp] theorem setFrameLine_dataLine (l : Level) : (s.setFrameLine l).dataLine = s.dataLine := rfl
@[simp] theorem setFrameLine_straps (l : Level) : (s.setFrameLine l).straps = s.straps := rfl
@[simp] theorem setFrameLine_reports (l : Level) : (s.setFrameLine l).reports = s.reports := rfl
@[simp] theorem setFrameLine_events (l : Level) : (s.setFrameLine l).events = s.events := rfl
@[simp] theorem setFrameLine_freeTicks (l : Level) : (s.setFrameLine l).freeTicks = s.freeTicks := rfl
@[simp] theorem setFrameLine_result (l : Level) : (s.setFrameLine l).result = s.result := rfl
@[simp] theorem setFrameLine_raceCount (l : Level) : (s.setFrameLine l).raceCount = s.raceCount := rfl
@[simp] theorem setFrameLine_header (l : Level) : (s.setFrameLine l).header = s.header := rfl
@[simp] theorem setFrameLine_expected (l : Level) : (s.setFrameLine l).expected = s.expected := rfl
@[simp] theorem setFrameLine_settleDone (l : Level) : (s.setFrameLine l).settleDone = s.settleDone := rfl
@[simp] theorem setFrameLine_captureFull (l : Level) : (s.setFrameLine l).captureFull = s.captureFull := rfl
@[simp] theorem setFrameLine_budgetGone (l : Level) : (s.setFrameLine l).budgetGone = s.budgetGone := rfl
@[simp] theorem setFrameLine_hasRoom (l : Level) : (s.setFrameLine l).hasRoom = s.hasRoom := rfl
@[simp] theorem setFrameLine_cells (l : Level) : (s.setFrameLine l).cells = s.cells := rfl

@[simp] theorem setDataLine_buf (l : Level) : (s.setDataLine l).buf = s.buf := rfl
@[simp] theorem setDataLine_cursor (l : Level) : (s.setDataLine l).cursor = s.cursor := rfl
@[simp] theorem setDataLine_capState (l : Level) : (s.setDataLine l).capState = s.capState := rfl
@[simp] theorem setDataLine_samplerEn (l : Level) : (s.setDataLine l).samplerEn = s.samplerEn := rfl
@[simp] theorem setDataLine_settleCnt (l : Level) : (s.setDataLine l).settleCnt = s.settleCnt := rfl
@[simp] theorem setDataLine_budgetCnt (l : Level) : (s.setDataLine l).budgetCnt = s.budgetCnt := rfl
@[simp] theorem setDataLine_resetAsserted (l : Level) : (s.setDataLine l).resetAsserted = s.resetAsserted := rfl
@[simp] theorem setDataLine_frameLine (l : Level) : (s.setDataLine l).frameLine = s.frameLine := rfl
@[simp] theorem setDataLine_dataLine (l : Level) : (s.setDataLine l).dataLine = l := rfl
@[simp] theorem setDataLine_straps (l : Level) : (s.setDataLine l).straps = s.straps := rfl
@[simp] theorem setDataLine_reports (l : Level) : (s.setDataLine l).reports = s.reports := rfl
@[simp] theorem setDataLine_events (l : Level) : (s.setDataLine l).events = s.events := rfl
@[simp] theorem setDataLine_freeTicks (l : Level) : (s.setDataLine l).freeTicks = s.freeTicks := rfl
@[simp] theorem setDataLine_result (l : Level) : (s.setDataLine l).result = s.result := rfl
@[simp] theorem setDataLine_raceCount (l : Level) : (s.setDataLine l).raceCount = s.raceCount := rfl
@[simp] theorem setDataLine_header (l : Level) : (s.setDataLine l).header = s.header := rfl
@[simp] theorem setDataLine_expected (l : Level) : (s.setDataLine l).expected = s.expected := rfl
@[simp] theorem setDataLine_frameActive (l : Level) : (s.setDataLine l).frameActive = s.frameActive := rfl
@[simp] theorem setDataLine_settleDone (l : Level) : (s.setDataLine l).settleDone = s.settleDone := rfl
@[simp] theorem setDataLine_captureFull (l : Level) : (s.setDataLine l).captureFull = s.captureFull := rfl
@[simp] theorem setDataLine_budgetGone (l : Level) : (s.setDataLine l).budgetGone = s.budgetGone := rfl
@[simp] theorem setDataLine_hasRoom (l : Level) : (s.setDataLine l).hasRoom = s.hasRoom := rfl
@[simp] theorem setDataLine_cells (l : Level) : (s.setDataLine l).cells = s.cells := rfl

@[simp] theorem emit_buf (r : Report) : (s.emit r).buf = s.buf := rfl
@[simp] theorem emit_cursor (r : Report) : (s.emit r).cursor = s.cursor := rfl
@[simp] theorem emit_capState (r : Report) : (s.emit r).capState = s.capState := rfl
@[simp] theorem emit_samplerEn (r : Report) : (s.emit r).samplerEn = s.samplerEn := rfl
@[simp] theorem emit_settleCnt (r : Report) : (s.emit r).settleCnt = s.settleCnt := rfl
@[simp] theorem emit_budgetCnt (r : Report) : (s.emit r).budgetCnt = s.budgetCnt := rfl
@[simp] theorem emit_resetAsserted (r : Report) : (s.emit r).resetAsserted = s.resetAsserted := rfl
@[simp] theorem emit_frameLine (r : Report) : (s.emit r).frameLine = s.frameLine := rfl
@[simp] theorem emit_dataLine (r : Report) : (s.emit r).dataLine = s.dataLine := rfl
@[simp] theorem emit_straps (r : Report) : (s.emit r).straps = s.straps := rfl
@[simp] theorem emit_reports (r : Report) : (s.emit r).reports = s.reports ++ [r] := rfl
@[simp] theorem emit_events (r : Report) : (s.emit r).events = s.events := rfl
@[simp] theorem emit_freeTicks (r : Report) : (s.emit r).freeTicks = s.freeTicks := rfl
@[simp] theorem emit_result (r : Report) : (s.emit r).result = s.result := rfl
@[simp] theorem emit_raceCount (r : Report) : (s.emit r).raceCount = s.raceCount := rfl
@[simp] theorem emit_header (r : Report) : (s.emit r).header = s.header := rfl
@[simp] theorem emit_expected (r : Report) : (s.emit r).expected = s.expected := rfl
@[simp] theorem emit_frameActive (r : Report) : (s.emit r).frameActive = s.frameActive := rfl
@[simp] theorem emit_settleDone (r : Report) : (s.emit r).settleDone = s.settleDone := rfl
@[simp] theorem emit_captureFull (r : Report) : (s.emit r).captureFull = s.captureFull := rfl
@[simp] theorem emit_budgetGone (r : Report) : (s.emit r).budgetGone = s.budgetGone := rfl
@[simp] theorem emit_hasRoom (r : Report) : (s.emit r).hasRoom = s.hasRoom := rfl
@[simp] theorem emit_cells (r : Report) : (s.emit r).cells = s.cells := rfl

@[simp] theorem setEvents_buf (es : List Event) : (s.setEvents es).buf = s.buf := rfl
@[simp] theorem setEvents_cursor (es : List Event) : (s.setEvents es).cursor = s.cursor := rfl
@[simp] theorem setEvents_capState (es : List Event) : (s.setEvents es).capState = s.capState := rfl
@[simp] theorem setEvents_samplerEn (es : List Event) : (s.setEvents es).samplerEn = s.samplerEn := rfl
@[simp] theorem setEvents_settleCnt (es : List Event) : (s.setEvents es).settleCnt = s.settleCnt := rfl
@[simp] theorem setEvents_budgetCnt (es : List Event) : (s.setEvents es).budgetCnt = s.budgetCnt := rfl
@[simp] theorem setEvents_resetAsserted (es : List Event) : (s.setEvents es).resetAsserted = s.resetAsserted := rfl
@[simp] theorem setEvents_frameLine (es : List Event) : (s.setEvents es).frameLine = s.frameLine := rfl
@[simp] theorem setEvents_dataLine (es : List Event) : (s.setEvents es).dataLine = s.dataLine := rfl
@[simp] theorem setEvents_straps (es : List Event) : (s.setEvents es).straps = s.straps := rfl
@[simp] theorem setEvents_reports (es : List Event) : (s.setEvents es).reports = s.reports := rfl
@[simp] theorem setEvents_events (es : List Event) : (s.setEvents es).events = es := rfl
@[simp] theorem setEvents_freeTicks (es : List Event) : (s.setEvents es).freeTicks = s.freeTicks := rfl
@[simp] theorem setEvents_result (es : List Event) : (s.setEvents es).result = s.result := rfl
@[simp] theorem setEvents_raceCount (es : List Event) : (s.setEvents es).raceCount = s.raceCount := rfl
@[simp] theorem setEvents_header (es : List Event) : (s.setEvents es).header = s.header := rfl
@[simp] theorem setEvents_expected (es : List Event) : (s.setEvents es).expected = s.expected := rfl
@[simp] theorem setEvents_frameActive (es : List Event) : (s.setEvents es).frameActive = s.frameActive := rfl
@[simp] theorem setEvents_settleDone (es : List Event) : (s.setEvents es).settleDone = s.settleDone := rfl
@[simp] theorem setEvents_captureFull (es : List Event) : (s.setEvents es).captureFull = s.captureFull := rfl
@[simp] theorem setEvents_budgetGone (es : List Event) : (s.setEvents es).budgetGone = s.budgetGone := rfl
@[simp] theorem setEvents_hasRoom (es : List Event) : (s.setEvents es).hasRoom = s.hasRoom := rfl
@[simp] theorem setEvents_cells (es : List Event) : (s.setEvents es).cells = s.cells := rfl

@[simp] theorem setResult_buf (r : FnResult) : (s.setResult r).buf = s.buf := rfl
@[simp] theorem setResult_cursor (r : FnResult) : (s.setResult r).cursor = s.cursor := rfl
@[simp] theorem setResult_capState (r : FnResult) : (s.setResult r).capState = s.capState := rfl
@[simp] theorem setResult_samplerEn (r : FnResult) : (s.setResult r).samplerEn = s.samplerEn := rfl
@[simp] theorem setResult_settleCnt (r : FnResult) : (s.setResult r).settleCnt = s.settleCnt := rfl
@[simp] theorem setResult_budgetCnt (r : FnResult) : (s.setResult r).budgetCnt = s.budgetCnt := rfl
@[simp] theorem setResult_resetAsserted (r : FnResult) : (s.setResult r).resetAsserted = s.resetAsserted := rfl
@[simp] theorem setResult_frameLine (r : FnResult) : (s.setResult r).frameLine = s.frameLine := rfl
@[simp] theorem setResult_dataLine (r : FnResult) : (s.setResult r).dataLine = s.dataLine := rfl
@[simp] theorem setResult_straps (r : FnResult) : (s.setResult r).straps = s.straps := rfl
@[simp] theorem setResult_reports (r : FnResult) : (s.setResult r).reports = s.reports := rfl
@[simp] theorem setResult_events (r : FnResult) : (s.setResult r).events = s.events := rfl
@[simp] theorem setResult_freeTicks (r : FnResult) : (s.setResult r).freeTicks = s.freeTicks := rfl
@[simp] theorem setResult_result (r : FnResult) : (s.setResult r).result = some r := rfl
@[simp] theorem setResult_raceCount (r : FnResult) : (s.setResult r).raceCount = s.raceCount := rfl
@[simp] theorem setResult_header (r : FnResult) : (s.setResult r).header = s.header := rfl
@[simp] theorem setResult_expected (r : FnResult) : (s.setResult r).expected = s.expected := rfl
@[simp] theorem setResult_frameActive (r : FnResult) : (s.setResult r).frameActive = s.frameActive := rfl
@[simp] theorem setResult_settleDone (r : FnResult) : (s.setResult r).settleDone = s.settleDone := rfl
@[simp] theorem setResult_captureFull (r : FnResult) : (s.setResult r).captureFull = s.captureFull := rfl
@[simp] theorem setResult_budgetGone (r : FnResult) : (s.setResult r).budgetGone = s.budgetGone := rfl
@[simp] theorem setResult_hasRoom (r : FnResult) : (s.setResult r).hasRoom = s.hasRoom := rfl
@[simp] theorem setResult_cells (r : FnResult) : (s.setResult r).cells = s.cells := rfl

@[simp] theorem countRace_buf : (s.countRace).buf = s.buf := rfl
@[simp] theorem countRace_cursor : (s.countRace).cursor = s.cursor := rfl
@[simp] theorem countRace_capState : (s.countRace).capState = s.capState := rfl
@[simp] theorem countRace_samplerEn : (s.countRace).samplerEn = s.samplerEn := rfl
@[simp] theorem countRace_settleCnt : (s.countRace).settleCnt = s.settleCnt := rfl
@[simp] theorem countRace_budgetCnt : (s.countRace).budgetCnt = s.budgetCnt := rfl
@[simp] theorem countRace_resetAsserted : (s.countRace).resetAsserted = s.resetAsserted := rfl
@[simp] theorem countRace_frameLine : (s.countRace).frameLine = s.frameLine := rfl
@[simp] theorem countRace_dataLine : (s.countRace).dataLine = s.dataLine := rfl
@[simp] theorem countRace_straps : (s.countRace).straps = s.straps := rfl
@[simp] theorem countRace_reports : (s.countRace).reports = s.reports := rfl
@[simp] theorem countRace_events : (s.countRace).events = s.events := rfl
@[simp] theorem countRace_freeTicks : (s.countRace).freeTicks = s.freeTicks := rfl
@[simp] theorem countRace_result : (s.countRace).result = s.result := rfl
@[simp] theorem countRace_raceCount : (s.countRace).raceCount = s.raceCount + 1 := rfl
@[simp] theorem countRace_header : (s.countRace).header = s.header := rfl
@[simp] theorem countRace_expected : (s.countRace).expected = s.expected := rfl
@[simp] theorem countRace_frameActive : (s.countRace).frameActive = s.frameActive := rfl
@[simp] theorem countRace_settleDone : (s.countRace).settleDone = s.settleDone := rfl
@[simp] theorem countRace_captureFull : (s.countRace).captureFull = s.captureFull := rfl
@[simp] theorem countRace_budgetGone : (s.countRace).budgetGone = s.budgetGone := rfl
@[simp] theorem countRace_hasRoom : (s.countRace).hasRoom = s.hasRoom := rfl
@[simp] theorem countRace_cells : (s.countRace).cells = s.cells := rfl

@[simp] theorem countFreeTick_buf : (s.countFreeTick).buf = s.buf := rfl
@[simp] theorem countFreeTick_cursor : (s.countFreeTick).cursor = s.cursor := rfl
@[simp] theorem countFreeTick_capState : (s.countFreeTick).capState = s.capState := rfl
@[simp] theorem countFreeTick_samplerEn : (s.countFreeTick).samplerEn = s.samplerEn := rfl
@[simp] theorem countFreeTick_settleCnt : (s.countFreeTick).settleCnt = s.settleCnt := rfl
@[simp] theorem countFreeTick_budgetCnt : (s.countFreeTick).budgetCnt = s.budgetCnt := rfl
@[simp] theorem countFreeTick_resetAsserted : (s.countFreeTick).resetAsserted = s.resetAsserted := rfl
@[simp] theorem countFreeTick_frameLine : (s.countFreeTick).frameLine = s.frameLine := rfl
@[simp] theorem countFreeTick_dataLine : (s.countFreeTick).dataLine = s.dataLine := rfl
@[simp] theorem countFreeTick_straps : (s.countFreeTick).straps = s.straps := rfl
@[simp] theorem countFreeTick_reports : (s.countFreeTick).reports = s.reports := rfl
@[simp] theorem countFreeTick_events : (s.countFreeTick).events = s.events := rfl
@[simp] theorem countFreeTick_freeTicks : (s.countFreeTick).freeTicks = s.freeTicks + 1 := rfl
@[simp] theorem countFreeTick_result : (s.countFreeTick).result = s.result := rfl
@[simp] theorem countFreeTick_raceCount : (s.countFreeTick).raceCount = s.raceCount := rfl
@[simp] theorem countFreeTick_header : (s.countFreeTick).header = s.header := rfl
@[simp] theorem countFreeTick_expected : (s.countFreeTick).expected = s.expected := rfl
@[simp] theorem countFreeTick_frameActive : (s.countFreeTick).frameActive = s.frameActive := rfl
@[simp] theorem countFreeTick_settleDone : (s.countFreeTick).settleDone = s.settleDone := rfl
@[simp] theorem countFreeTick_captureFull : (s.countFreeTick).captureFull = s.captureFull := rfl
@[simp] theorem countFreeTick_budgetGone : (s.countFreeTick).budgetGone = s.budgetGone := rfl
@[simp] theorem countFreeTick_hasRoom : (s.countFreeTick).hasRoom = s.hasRoom := rfl
@[simp] theorem countFreeTick_cells : (s.countFreeTick).cells = s.cells := rfl

@[simp] theorem memClear_buf : (s.memClear).buf = Memory.cleared := rfl
@[simp] theorem memClear_cursor : (s.memClear).cursor = s.cursor := rfl
@[simp] theorem memClear_capState : (s.memClear).capState = s.capState := rfl
@[simp] theorem memClear_samplerEn : (s.memClear).samplerEn = s.samplerEn := rfl
@[simp] theorem memClear_settleCnt : (s.memClear).settleCnt = s.settleCnt := rfl
@[simp] theorem memClear_budgetCnt : (s.memClear).budgetCnt = s.budgetCnt := rfl
@[simp] theorem memClear_resetAsserted : (s.memClear).resetAsserted = s.resetAsserted := rfl
@[simp] theorem memClear_frameLine : (s.memClear).frameLine = s.frameLine := rfl
@[simp] theorem memClear_dataLine : (s.memClear).dataLine = s.dataLine := rfl
@[simp] theorem memClear_straps : (s.memClear).straps = s.straps := rfl
@[simp] theorem memClear_reports : (s.memClear).reports = s.reports := rfl
@[simp] theorem memClear_events : (s.memClear).events = s.events := rfl
@[simp] theorem memClear_freeTicks : (s.memClear).freeTicks = s.freeTicks := rfl
@[simp] theorem memClear_result : (s.memClear).result = s.result := rfl
@[simp] theorem memClear_raceCount : (s.memClear).raceCount = s.raceCount := rfl
@[simp] theorem memClear_header : (s.memClear).header = s.header := rfl
@[simp] theorem memClear_expected : (s.memClear).expected = s.expected := rfl
@[simp] theorem memClear_frameActive : (s.memClear).frameActive = s.frameActive := rfl
@[simp] theorem memClear_settleDone : (s.memClear).settleDone = s.settleDone := rfl
@[simp] theorem memClear_captureFull : (s.memClear).captureFull = s.captureFull := rfl
@[simp] theorem memClear_budgetGone : (s.memClear).budgetGone = s.budgetGone := rfl
@[simp] theorem memClear_hasRoom : (s.memClear).hasRoom = s.hasRoom := rfl

@[simp] theorem endCycle_buf (r : Report) : (s.endCycle r).buf = Memory.cleared := rfl
@[simp] theorem endCycle_cursor (r : Report) : (s.endCycle r).cursor = s.cursor := rfl
@[simp] theorem endCycle_capState (r : Report) : (s.endCycle r).capState = .idle := rfl
@[simp] theorem endCycle_samplerEn (r : Report) : (s.endCycle r).samplerEn = s.samplerEn := rfl
@[simp] theorem endCycle_settleCnt (r : Report) : (s.endCycle r).settleCnt = s.settleCnt := rfl
@[simp] theorem endCycle_budgetCnt (r : Report) : (s.endCycle r).budgetCnt = s.budgetCnt := rfl
@[simp] theorem endCycle_resetAsserted (r : Report) : (s.endCycle r).resetAsserted = s.resetAsserted := rfl
@[simp] theorem endCycle_frameLine (r : Report) : (s.endCycle r).frameLine = s.frameLine := rfl
@[simp] theorem endCycle_dataLine (r : Report) : (s.endCycle r).dataLine = s.dataLine := rfl
@[simp] theorem endCycle_straps (r : Report) : (s.endCycle r).straps = s.straps := rfl
@[simp] theorem endCycle_reports (r : Report) : (s.endCycle r).reports = s.reports ++ [r] := rfl
@[simp] theorem endCycle_events (r : Report) : (s.endCycle r).events = s.events := rfl
@[simp] theorem endCycle_freeTicks (r : Report) : (s.endCycle r).freeTicks = s.freeTicks := rfl
@[simp] theorem endCycle_result (r : Report) : (s.endCycle r).result = s.result := rfl
@[simp] theorem endCycle_raceCount (r : Report) : (s.endCycle r).raceCount = s.raceCount := rfl
@[simp] theorem endCycle_header (r : Report) : (s.endCycle r).header = s.header := rfl
@[simp] theorem endCycle_expected (r : Report) : (s.endCycle r).expected = s.expected := rfl
@[simp] theorem endCycle_frameActive (r : Report) : (s.endCycle r).frameActive = s.frameActive := rfl
@[simp] theorem endCycle_settleDone (r : Report) : (s.endCycle r).settleDone = s.settleDone := rfl
@[simp] theorem endCycle_captureFull (r : Report) : (s.endCycle r).captureFull = s.captureFull := rfl
@[simp] theorem endCycle_budgetGone (r : Report) : (s.endCycle r).budgetGone = s.budgetGone := rfl
@[simp] theorem endCycle_hasRoom (r : Report) : (s.endCycle r).hasRoom = s.hasRoom := rfl

@[simp] theorem closeWindow_buf (c : CapState) : (s.closeWindow c).buf = s.buf := rfl
@[simp] theorem closeWindow_cursor (c : CapState) : (s.closeWindow c).cursor = s.cursor := rfl
@[simp] theorem closeWindow_capState (c : CapState) : (s.closeWindow c).capState = c := rfl
@[simp] theorem closeWindow_samplerEn (c : CapState) : (s.closeWindow c).samplerEn = false := rfl
@[simp] theorem closeWindow_settleCnt (c : CapState) : (s.closeWindow c).settleCnt = s.settleCnt := rfl
@[simp] theorem closeWindow_budgetCnt (c : CapState) : (s.closeWindow c).budgetCnt = s.budgetCnt := rfl
@[simp] theorem closeWindow_resetAsserted (c : CapState) : (s.closeWindow c).resetAsserted = s.resetAsserted := rfl
@[simp] theorem closeWindow_frameLine (c : CapState) : (s.closeWindow c).frameLine = s.frameLine := rfl
@[simp] theorem closeWindow_dataLine (c : CapState) : (s.closeWindow c).dataLine = s.dataLine := rfl
@[simp] theorem closeWindow_straps (c : CapState) : (s.closeWindow c).straps = s.straps := rfl
@[simp] theorem closeWindow_reports (c : CapState) : (s.closeWindow c).reports = s.reports := rfl
@[simp] theorem closeWindow_events (c : CapState) : (s.closeWindow c).events = s.events := rfl
@[simp] theorem closeWindow_freeTicks (c : CapState) : (s.closeWindow c).freeTicks = s.freeTicks := rfl
@[simp] theorem closeWindow_result (c : CapState) : (s.closeWindow c).result = s.result := rfl
@[simp] theorem closeWindow_raceCount (c : CapState) : (s.closeWindow c).raceCount = s.raceCount := rfl
@[simp] theorem closeWindow_header (c : CapState) : (s.closeWindow c).header = s.header := rfl
@[simp] theorem closeWindow_expected (c : CapState) : (s.closeWindow c).expected = s.expected := rfl
@[simp] theorem closeWindow_frameActive (c : CapState) : (s.closeWindow c).frameActive = s.frameActive := rfl
@[simp] theorem closeWindow_settleDone (c : CapState) : (s.closeWindow c).settleDone = s.settleDone := rfl
@[simp] theorem closeWindow_captureFull (c : CapState) : (s.closeWindow c).captureFull = s.captureFull := rfl
@[simp] theorem closeWindow_budgetGone (c : CapState) : (s.closeWindow c).budgetGone = s.budgetGone := rfl
@[simp] theorem closeWindow_hasRoom (c : CapState) : (s.closeWindow c).hasRoom = s.hasRoom := rfl
@[simp] theorem closeWindow_cells (c : CapState) : (s.closeWindow c).cells = s.cells := rfl

@[simp] theorem enterReset_buf : (s.enterReset).buf = Memory.cleared := rfl
@[simp] theorem enterReset_cursor : (s.enterReset).cursor = 0#7 := rfl
@[simp] theorem enterReset_capState : (s.enterReset).capState = .idle := rfl
@[simp] theorem enterReset_samplerEn : (s.enterReset).samplerEn = false := rfl
@[simp] theorem enterReset_settleCnt : (s.enterReset).settleCnt = 0 := rfl
@[simp] theorem enterReset_budgetCnt : (s.enterReset).budgetCnt = 0 := rfl
@[simp] theorem enterReset_resetAsserted : (s.enterReset).resetAsserted = true := rfl
@[simp] theorem enterReset_frameLine : (s.enterReset).frameLine = s.frameLine := rfl
@[simp] theorem enterReset_dataLine : (s.enterReset).dataLine = s.dataLine := rfl
@[simp] theorem enterReset_straps : (s.enterReset).straps = s.straps := rfl
@[simp] theorem enterReset_reports : (s.enterReset).reports = s.reports := rfl
@[simp] theorem enterReset_events : (s.enterReset).events = s.events := rfl
@[simp] theorem enterReset_freeTicks : (s.enterReset).freeTicks = s.freeTicks := rfl
@[simp] theorem enterReset_result : (s.enterReset).result = s.result := rfl
@[simp] theorem enterReset_raceCount : (s.enterReset).raceCount = s.raceCount := rfl
@[simp] theorem enterReset_header : (s.enterReset).header = s.header := rfl
@[simp] theorem enterReset_expected : (s.enterReset).expected = s.expected := rfl
@[simp] theorem enterReset_frameActive : (s.enterReset).frameActive = s.frameActive := rfl

@[simp] theorem leaveReset_buf : (s.leaveReset).buf = s.buf := rfl
@[simp] theorem leaveReset_cursor : (s.leaveReset).cursor = s.cursor := rfl
@[simp] theorem leaveReset_capState : (s.leaveReset).capState = s.capState := rfl
@[simp] theorem leaveReset_samplerEn : (s.leaveReset).samplerEn = s.samplerEn := rfl
@[simp] theorem leaveReset_settleCnt : (s.leaveReset).settleCnt = s.settleCnt := rfl
@[simp] theorem leaveReset_budgetCnt : (s.leaveReset).budgetCnt = s.budgetCnt := rfl
@[simp] theorem leaveReset_resetAsserted : (s.leaveReset).resetAsserted = false := rfl
@[simp] theorem leaveReset_frameLine : (s.leaveReset).frameLine = s.frameLine := rfl
@[simp] theorem leaveReset_dataLine : (s.leaveReset).dataLine = s.dataLine := rfl
@[simp] theorem leaveReset_straps : (s.leaveReset).straps = s.straps := rfl
@[simp] theorem leaveReset_reports : (s.leaveReset).reports = s.reports := rfl
@[simp] theorem leaveReset_events : (s.leaveReset).events = s.events := rfl
@[simp] theorem leaveReset_freeTicks : (s.leaveReset).freeTicks = s.freeTicks := rfl
@[simp] theorem leaveReset_result : (s.leaveReset).result = s.result := rfl
@[simp] theorem leaveReset_raceCount : (s.leaveReset).raceCount = s.raceCount := rfl
@[simp] theorem leaveReset_header : (s.leaveReset).header = s.header := rfl
@[simp] theorem leaveReset_expected : (s.leaveReset).expected = s.expected := rfl
@[simp] theorem leaveReset_frameActive : (s.leaveReset).frameActive = s.frameActive := rfl
@[simp] theorem leaveReset_settleDone : (s.leaveReset).settleDone = s.settleDone := rfl
@[simp] theorem leaveReset_captureFull : (s.leaveReset).captureFull = s.captureFull := rfl
@[simp] theorem leaveReset_budgetGone : (s.leaveReset).budgetGone = s.budgetGone := rfl
@[simp] theorem leaveReset_hasRoom : (s.leaveReset).hasRoom = s.hasRoom := rfl
@[simp] theorem leaveReset_cells : (s.leaveReset).cells = s.cells := rfl

end Sys2Proof.Machine
end

