-- ==== Sys2Proof/Laws/Ops.lean ====
section
/-! SUPPORT. One lemma per shared operation that says once everything it can do. -/

namespace Sys2Proof.Machine

/-- Everything `memWrite` can do. -/
theorem memWrite_eq (s : State) (a : Nat) (b : Bool) :
    (a < s.expected ∧ s.memWrite a b = .ok (s.setBuf (Memory.write s.buf a (Memory.byteOf b)))) ∨
      (s.expected ≤ a ∧ s.memWrite a b = .error (.cellOutOfRange a)) := by
  by_cases h : a < s.expected
  · exact .inl ⟨h, if_pos h⟩
  · exact .inr ⟨not_lt.1 h, if_neg h⟩

/-- A read in range has the cells it names. -/
theorem memRead_of_le {cells : List Bool} {a n : Nat} (h : a + n ≤ cells.length) :
    memRead cells a n = some ((cells.drop a).take n) := if_pos h

/-- A read out of range has no value. -/
theorem memRead_of_lt {cells : List Bool} {a n : Nat} (h : cells.length < a + n) : memRead cells a n = none :=
  if_neg (by omega)

@[simp] theorem cells_length (s : State) : s.cells.length = s.expected := by simp [State.cells]

@[simp] theorem view_length (s : State) : s.view.length = s.expected := by simp [State.view]

/-- With the gate closed a read by itself sees the cells. -/
theorem view_eq_cells {s : State} (h : s.samplerEn = false) : s.view = s.cells := by
  simp [State.view, State.cells, h]

theorem expected_eq (s : State) : s.expected = s.header + 68 := rfl

/-- Everything `fetchWord` can do. -/
theorem fetchWord_eq (ch : Channel) (w : Nat) (s : State) :
    (∃ i, decode ch w = .ok i ∧ fetchWord ch w s = .run i s) ∨
      (∃ c k, decode ch w = .error (.checkFailed c k) ∧ fetchWord ch w s = .env (s.setResult (.decodeError c k))) ∨
      (decode ch w = .error .notAccepted ∧ fetchWord ch w s = .env (s.setResult .notAccepted)) ∨
      (∃ n v, decode ch w = .error (.wordTooWide n v) ∧ fetchWord ch w s = .stop (.operandTooWide n v)) := by
  unfold fetchWord
  cases h : decode ch w with
  | ok i => exact .inl ⟨i, rfl, rfl⟩
  | error r =>
    cases r with
    | checkFailed c k => exact .inr (.inl ⟨c, k, rfl, rfl⟩)
    | notAccepted => exact .inr (.inr (.inl ⟨rfl, rfl⟩))
    | wordTooWide n v => exact .inr (.inr (.inr ⟨n, v, rfl, rfl⟩))

/-- A sequencer word of seven bits always decodes. -/
theorem decode_sequencer {w : Nat} (h : w < 128) : decode .sequencer w = .ok (decodeSequencer w) := if_pos h

/-- A sampler word of three bits always decodes. -/
theorem decode_sampler {w : Nat} (h : w < 8) : decode .sampler w = .ok (decodeSampler w) := if_pos h

/-- A tick outside reset always runs an operation. -/
theorem fetchTick_of_running {s : State} (h : s.resetAsserted = false) :
    fetchTick s = .run (decodeSequencer s.sequencerWord.toNat) s := by
  simp [fetchTick, h, fetchWord, decode_sequencer s.sequencerWord.isLt]

theorem fetchTick_of_reset {s : State} (h : s.resetAsserted = true) : fetchTick s = .env s := by
  simp [fetchTick, h]

/-- An edge outside reset always runs an operation, on the level that came with it. -/
theorem fetchEdge_of_running {s : State} (l : Level) (h : s.resetAsserted = false) :
    fetchEdge l s = .run (decodeSampler (s.setDataLine l).samplerWord.toNat) (s.setDataLine l) := by
  simp [fetchEdge, h, fetchWord, decode_sampler (s.setDataLine l).samplerWord.isLt]

theorem fetchEdge_of_reset {s : State} (l : Level) (h : s.resetAsserted = true) :
    fetchEdge l s = .env (s.setDataLine l) := by
  simp [fetchEdge, h]

/-- Everything the address check can do. -/
theorem checkAddress_eq (cells : List Bool) (header : Nat) (k : Fin 4) :
    (readAddrAt cells header (addrOffset k.val) = some (expectedAddress k) ∧ checkAddress cells header k = .ok ()) ∨
      (readAddrAt cells header (addrOffset k.val) ≠ some (expectedAddress k) ∧
        checkAddress cells header k = .error (.addressMismatch, k)) := by
  by_cases h : readAddrAt cells header (addrOffset k.val) = some (expectedAddress k)
  · exact .inl ⟨h, if_pos h⟩
  · exact .inr ⟨h, if_neg h⟩

/-- A digit frame that passes has the expected address and a data value whose pattern is in the table. -/
theorem resolveDigitFrame_ok {cells : List Bool} {header : Nat} {k : Fin 3} {d : BitVec 9} {n : Nat}
    (h : resolveDigitFrame cells header k = .ok (d, n)) :
    readAddrAt cells header (addrOffset k.val) = some (expectedAddress k.castSucc) ∧
      readDataAt cells header (dataOffset k.val) = some d ∧ (digitOf d).1 = true ∧ n = (digitOf d).2.toNat := by
  unfold resolveDigitFrame at h
  rcases checkAddress_eq cells header k.castSucc with ⟨ha, hc⟩ | ⟨ha, hc⟩
  · rw [hc] at h
    cases hd : readDataAt cells header (dataOffset k.val) with
    | none => simp [hd] at h
    | some d' =>
      simp only [hd] at h
      by_cases hv : (digitOf d').1 = true
      · simp only [hv, if_true, Except.ok.injEq, Prod.mk.injEq] at h
        obtain ⟨rfl, rfl⟩ := h
        exact ⟨ha, rfl, hv, rfl⟩
      · simp [hv] at h
  · rw [hc] at h
    cases h

/-- A digit frame that fails names its own frame and one of two causes. -/
theorem resolveDigitFrame_error {cells : List Bool} {header : Nat} {k : Fin 3} {c : Cause} {j : Fin 4}
    (h : resolveDigitFrame cells header k = .error (c, j)) :
    j = k.castSucc ∧ (c = .addressMismatch ∨ c = .invalidDigit) := by
  unfold resolveDigitFrame at h
  rcases checkAddress_eq cells header k.castSucc with ⟨_, hc⟩ | ⟨_, hc⟩
  · rw [hc] at h
    cases hd : readDataAt cells header (dataOffset k.val) with
    | none => simp only [hd, Except.error.injEq, Prod.mk.injEq] at h; exact ⟨h.2.symm, .inr h.1.symm⟩
    | some d' =>
      simp only [hd] at h
      by_cases hv : (digitOf d').1 = true
      · simp [hv] at h
      · simp only [hv, Bool.false_eq_true, if_false, Except.error.injEq, Prod.mk.injEq] at h
        exact ⟨h.2.symm, .inr h.1.symm⟩
  · rw [hc] at h
    simp only [Except.error.injEq, Prod.mk.injEq] at h
    exact ⟨h.2.symm, .inl h.1.symm⟩

/-- Everything the sentinel frame can do. -/
theorem resolveSentinelFrame_eq (cells : List Bool) (header : Nat) :
    (readAddrAt cells header 51 = some 0xA3#8 ∧ readDataAt cells header 59 = some 0x020#9 ∧
        resolveSentinelFrame cells header = .ok ()) ∨
      (readAddrAt cells header 51 ≠ some 0xA3#8 ∧
        resolveSentinelFrame cells header = .error (.addressMismatch, 3)) ∨
      (readAddrAt cells header 51 = some 0xA3#8 ∧ readDataAt cells header 59 ≠ some 0x020#9 ∧
        resolveSentinelFrame cells header = .error (.sentinelMismatch, 3)) := by
  unfold resolveSentinelFrame
  rcases checkAddress_eq cells header 3 with ⟨ha, hc⟩ | ⟨ha, hc⟩
  · rw [hc]
    by_cases hd : readDataAt cells header (dataOffset 3) = some sentinelValue
    · exact .inl ⟨ha, hd, if_pos hd⟩
    · exact .inr (.inr ⟨ha, hd, if_neg hd⟩)
  · rw [hc]
    exact .inr (.inl ⟨ha, rfl⟩)

/-- The step is the operation fetched, the changed input, or the refusal. -/
theorem step_of_run {s s' : State} {i : Instr} (h : fetch s = .run i s') : step s = exec i s' := by
  simp [step, h]

theorem step_of_env {s s' : State} (h : fetch s = .env s') : step s = .next s' := by
  simp [step, h]

theorem step_of_stop {s : State} {r : Refusal} (h : fetch s = .stop r) : step s = .refused r := by
  simp [step, h]

end Sys2Proof.Machine
end

