-- ==== Sys2Proof/Laws/PerInstr.lean ====
section
/-! SUPPORT. Statements made of each instruction as syntax: one lemma per constructor. -/

namespace Sys2Proof.Laws

/-- The word the encoder writes has no bit above the width of its channel. -/
def EncodingFits.Statement (i : Instr) : Prop := (encode i).bits < 2 ^ (encode i).channel.width

theorem sequencerBits_lt {fixed : Nat} (h : fixed ≤ 112) (f z c b : Bool) : sequencerBits fixed f z c b < 128 := by
  have hf := f.toNat_le
  have hz := z.toNat_le
  have hc := c.toNat_le
  have hb := b.toNat_le
  unfold sequencerBits
  omega

theorem dataBits_lt {p : Nat} (h : p < 128) (t stop : Bool) : dataBits t p stop < 512 := by
  have ht := t.toNat_le
  have hs := stop.toNat_le
  unfold dataBits
  omega

theorem joinPacket_lt (k : Packet) : joinPacket k < 2 ^ 68 := by
  have h1 := k.a.isLt
  have h2 := k.d.isLt
  have h3 := k.b.isLt
  have h4 := k.e.isLt
  have h5 := k.c.isLt
  have h6 := k.f.isLt
  have h7 := k.g.isLt
  have h8 := k.h.isLt
  unfold joinPacket
  omega

theorem EncodingFits.cycleStart (f : Bool) (z : Bool) (c : Bool) (b : Bool) : EncodingFits.Statement (.cycleStart f z c b) := sequencerBits_lt (by decide) _ _ _ _

theorem EncodingFits.busWait (z : Bool) (c : Bool) (b : Bool) : EncodingFits.Statement (.busWait z c b) := sequencerBits_lt (by decide) _ _ _ _

theorem EncodingFits.busIdle (z : Bool) (c : Bool) (b : Bool) : EncodingFits.Statement (.busIdle z c b) := sequencerBits_lt (by decide) _ _ _ _

theorem EncodingFits.settleWait (f : Bool) (c : Bool) (b : Bool) : EncodingFits.Statement (.settleWait f c b) := sequencerBits_lt (by decide) _ _ _ _

theorem EncodingFits.arm (f : Bool) (c : Bool) (b : Bool) : EncodingFits.Statement (.arm f c b) := sequencerBits_lt (by decide) _ _ _ _

theorem EncodingFits.poll (f : Bool) (z : Bool) : EncodingFits.Statement (.poll f z) := sequencerBits_lt (by decide) _ _ _ _

theorem EncodingFits.captureDone (f : Bool) (z : Bool) (b : Bool) : EncodingFits.Statement (.captureDone f z b) := sequencerBits_lt (by decide) _ _ _ _

theorem EncodingFits.captureTimeout (f : Bool) (z : Bool) : EncodingFits.Statement (.captureTimeout f z) := sequencerBits_lt (by decide) _ _ _ _

theorem EncodingFits.decodeReport (f : Bool) (z : Bool) (c : Bool) (b : Bool) : EncodingFits.Statement (.decodeReport f z c b) := sequencerBits_lt (by decide) _ _ _ _

theorem EncodingFits.timeoutReport (f : Bool) (z : Bool) (c : Bool) (b : Bool) : EncodingFits.Statement (.timeoutReport f z c b) := sequencerBits_lt (by decide) _ _ _ _

theorem EncodingFits.stateFault (s0 : Bool) (f : Bool) (z : Bool) (c : Bool) (b : Bool) : EncodingFits.Statement (.stateFault s0 f z c b) := sequencerBits_lt (by cases s0 <;> decide) _ _ _ _

theorem EncodingFits.sample (d : Bool) : EncodingFits.Statement (.sample d) := by
  unfold EncodingFits.Statement
  cases d <;> decide

theorem EncodingFits.edgeDropFull (d : Bool) : EncodingFits.Statement (.edgeDropFull d) := by
  unfold EncodingFits.Statement
  cases d <;> decide

theorem EncodingFits.edgeDropOff (l : Bool) (d : Bool) : EncodingFits.Statement (.edgeDropOff l d) := by
  unfold EncodingFits.Statement
  cases l <;> cases d <;> decide

theorem EncodingFits.readAddr (o : BitVec 7) : EncodingFits.Statement (.readAddr o) := o.isLt

theorem EncodingFits.readData (o : BitVec 7) : EncodingFits.Statement (.readData o) := o.isLt

theorem EncodingFits.digit (t : Bool) (p : BitVec 7) (stop : Bool) : EncodingFits.Statement (.digit t p stop) := dataBits_lt p.isLt _ _

theorem EncodingFits.stopFlag (t : Bool) (p : BitVec 7) (stop : Bool) : EncodingFits.Statement (.stopFlag t p stop) := dataBits_lt p.isLt _ _

theorem EncodingFits.resolve (pkt : Packet) : EncodingFits.Statement (.resolve pkt) := joinPacket_lt _

theorem EncodingFits.packetAccepted (u : Bool) (p : BitVec 7) (x : Bool) (v : Bool) (q : BitVec 7) (y : Bool) (w : Bool) (r : BitVec 7) (stop : Bool) : EncodingFits.Statement (.packetAccepted u p x v q y w r stop) := joinPacket_lt _

theorem EncodingFits.addrFrame0 : EncodingFits.Statement (.addrFrame0) := by
  unfold EncodingFits.Statement
  decide

theorem EncodingFits.addrFrame1 : EncodingFits.Statement (.addrFrame1) := by
  unfold EncodingFits.Statement
  decide

theorem EncodingFits.addrFrame2 : EncodingFits.Statement (.addrFrame2) := by
  unfold EncodingFits.Statement
  decide

theorem EncodingFits.addrFrame3 : EncodingFits.Statement (.addrFrame3) := by
  unfold EncodingFits.Statement
  decide

theorem EncodingFits.digit0 (t : Bool) (stop : Bool) : EncodingFits.Statement (.digit0 t stop) := dataBits_lt (by decide) _ _

theorem EncodingFits.digit1 (t : Bool) (stop : Bool) : EncodingFits.Statement (.digit1 t stop) := dataBits_lt (by decide) _ _

theorem EncodingFits.digit2 (t : Bool) (stop : Bool) : EncodingFits.Statement (.digit2 t stop) := dataBits_lt (by decide) _ _

theorem EncodingFits.digit3 (t : Bool) (stop : Bool) : EncodingFits.Statement (.digit3 t stop) := dataBits_lt (by decide) _ _

theorem EncodingFits.digit4 (t : Bool) (stop : Bool) : EncodingFits.Statement (.digit4 t stop) := dataBits_lt (by decide) _ _

theorem EncodingFits.digit5 (t : Bool) (stop : Bool) : EncodingFits.Statement (.digit5 t stop) := dataBits_lt (by decide) _ _

theorem EncodingFits.digit6 (t : Bool) (stop : Bool) : EncodingFits.Statement (.digit6 t stop) := dataBits_lt (by decide) _ _

theorem EncodingFits.digit7 (t : Bool) (stop : Bool) : EncodingFits.Statement (.digit7 t stop) := dataBits_lt (by decide) _ _

theorem EncodingFits.digit8 (t : Bool) (stop : Bool) : EncodingFits.Statement (.digit8 t stop) := dataBits_lt (by decide) _ _

theorem EncodingFits.digit9 (t : Bool) (stop : Bool) : EncodingFits.Statement (.digit9 t stop) := dataBits_lt (by decide) _ _

theorem EncodingFits.sentinel : EncodingFits.Statement (.sentinel) := by
  unfold EncodingFits.Statement
  decide

end Sys2Proof.Laws
end

