-- ==== Sys2Proof/Laws/Schedule.lean ====
section
/-! SUPPORT. The schedule: taking the next event off it touches the model's own two fields only; a listed event is the one
taken; and on the free bus a tick always comes again. -/

namespace Sys2Proof.Machine

variable (s : State)

/-- Putting a stretch of the free bus on the list touches the model's own two fields only. -/
theorem withSchedule_eq : s.withSchedule = { s with events := s.withSchedule.events, freeTicks := s.withSchedule.freeTicks } := by
  unfold State.withSchedule
  split <;> rfl

theorem afterEvent_eq : s.afterEvent = { s with events := s.afterEvent.events, freeTicks := s.afterEvent.freeTicks } := by
  unfold State.afterEvent
  rw [withSchedule_eq]
  rfl

@[simp] theorem afterEvent_buf : s.afterEvent.buf = s.buf := by rw [afterEvent_eq]
@[simp] theorem afterEvent_cursor : s.afterEvent.cursor = s.cursor := by rw [afterEvent_eq]
@[simp] theorem afterEvent_capState : s.afterEvent.capState = s.capState := by rw [afterEvent_eq]
@[simp] theorem afterEvent_samplerEn : s.afterEvent.samplerEn = s.samplerEn := by rw [afterEvent_eq]
@[simp] theorem afterEvent_settleCnt : s.afterEvent.settleCnt = s.settleCnt := by rw [afterEvent_eq]
@[simp] theorem afterEvent_budgetCnt : s.afterEvent.budgetCnt = s.budgetCnt := by rw [afterEvent_eq]
@[simp] theorem afterEvent_resetAsserted : s.afterEvent.resetAsserted = s.resetAsserted := by rw [afterEvent_eq]
@[simp] theorem afterEvent_frameLine : s.afterEvent.frameLine = s.frameLine := by rw [afterEvent_eq]
@[simp] theorem afterEvent_dataLine : s.afterEvent.dataLine = s.dataLine := by rw [afterEvent_eq]
@[simp] theorem afterEvent_straps : s.afterEvent.straps = s.straps := by rw [afterEvent_eq]
@[simp] theorem afterEvent_reports : s.afterEvent.reports = s.reports := by rw [afterEvent_eq]
@[simp] theorem afterEvent_result : s.afterEvent.result = s.result := by rw [afterEvent_eq]
@[simp] theorem afterEvent_raceCount : s.afterEvent.raceCount = s.raceCount := by rw [afterEvent_eq]
@[simp] theorem afterEvent_header : s.afterEvent.header = s.header := by rw [afterEvent_eq]; rfl
@[simp] theorem afterEvent_expected : s.afterEvent.expected = s.expected := by rw [afterEvent_eq]; rfl
@[simp] theorem afterEvent_frameActive : s.afterEvent.frameActive = s.frameActive := by rw [afterEvent_eq]; rfl
@[simp] theorem afterEvent_settleDone : s.afterEvent.settleDone = s.settleDone := by rw [afterEvent_eq]; rfl
@[simp] theorem afterEvent_captureFull : s.afterEvent.captureFull = s.captureFull := by rw [afterEvent_eq]; rfl
@[simp] theorem afterEvent_budgetGone : s.afterEvent.budgetGone = s.budgetGone := by rw [afterEvent_eq]; rfl
@[simp] theorem afterEvent_hasRoom : s.afterEvent.hasRoom = s.hasRoom := by rw [afterEvent_eq]; rfl
@[simp] theorem afterEvent_cells : s.afterEvent.cells = s.cells := by rw [afterEvent_eq]; rfl
@[simp] theorem afterEvent_sequencerWord : s.afterEvent.sequencerWord = s.sequencerWord := by rw [afterEvent_eq]; rfl

/-- A listed event is the next one, and only it is taken off. -/
theorem nextEvent_of_cons {s : State} {e : Event} {es : List Event} (h : s.events = e :: es) :
    s.nextEvent = e ∧ s.afterEvent = s.setEvents es := by
  simp [State.nextEvent, State.afterEvent, State.withSchedule, h]

theorem fetch_of_cons {s : State} {e : Event} {es : List Event} (h : s.events = e :: es) :
    fetch s = fetchEvent e (s.setEvents es) := by
  rw [fetch, (nextEvent_of_cons h).1, (nextEvent_of_cons h).2]

/-- A stretch of the free bus lists an event. -/
theorem freeStretch_ne_nil (n : Nat) : freeStretch n ≠ [] := by simp [freeStretch]

/-- With the list run out, the step is the one that the next stretch of the free bus begins with. -/
theorem fetch_of_nil {s : State} (h : s.events = []) :
    fetch s = fetch { s with events := freeStretch s.freeTicks, freeTicks := s.freeTicks + 1 } := by
  have hs : s.withSchedule = { s with events := freeStretch s.freeTicks, freeTicks := s.freeTicks + 1 } := by
    unfold State.withSchedule
    rw [h]
    rfl
  obtain ⟨e, es, he⟩ := List.exists_cons_of_ne_nil (freeStretch_ne_nil s.freeTicks)
  rw [fetch, State.nextEvent, State.afterEvent, hs, fetch_of_cons (e := e) (es := es) he, he]
  rfl

/-- The next event of the free bus is never a call by itself. -/
theorem nextEvent_of_nil {s : State} (h : s.events = []) : s.nextEvent = .tick ∨ ∃ x, s.nextEvent = eventOf x := by
  unfold State.nextEvent State.withSchedule
  rw [h]
  simp only [setEvents_events, countFreeTick_events, freeStretch]
  cases Config.betweenTicks s.freeTicks with
  | nil => exact .inl rfl
  | cons x xs => exact .inr ⟨x, rfl⟩

end Sys2Proof.Machine
end

