-- ==== Sys2Proof/Laws/Step.lean ====
section
/-! SUPPORT. What a step can do, said once: a tick and an edge as functions of the state, a call by itself as a change of
the model's own fields, and from them the inversion of a step. -/

namespace Sys2Proof.Machine

/-- The operation a sequencer word selects, from the bits it is made of. -/
theorem decodeSequencer_bits (c : CapState) (f z k b : Bool) :
    decodeSequencer
        (stateCode c ++ BitVec.ofBool f ++ BitVec.ofBool z ++ BitVec.ofBool k ++ BitVec.ofBool b : BitVec 7).toNat =
      match c with
      | .idle => .cycleStart f z k b
      | .busWait => if f then .busWait z k b else .busIdle z k b
      | .settle => if z then .arm f k b else .settleWait f k b
      | .capturing => if k then .captureDone f z b else if b then .captureTimeout f z else .poll f z
      | .complete => .decodeReport f z k b
      | .timedOut => .timeoutReport f z k b
      | .reserved110 => .stateFault false f z k b
      | .reserved111 => .stateFault true f z k b := by
  cases c <;> cases f <;> cases z <;> cases k <;> cases b <;> rfl

/-- The operation a sampler word selects, from the bits it is made of. -/
theorem decodeSampler_bits (e l d : Bool) :
    decodeSampler (BitVec.ofBool e ++ BitVec.ofBool l ++ BitVec.ofBool d : BitVec 3).toNat =
      if e then (if l then .sample d else .edgeDropFull d) else .edgeDropOff l d := by
  cases e <;> cases l <;> cases d <;> rfl

/-- What a tick outside reset does, as a function of the state. -/
def tickNext (s : State) : State :=
  match s.capState with
  | .idle => ((s.setCursor 0#7).memClear).goto .busWait
  | .busWait => if s.frameActive then s else (s.setSettle s.straps.settleTicks).goto .settle
  | .settle =>
    if s.settleDone then ((s.setBudget s.straps.budgetTicks).setGate true).goto .capturing
    else s.setSettle (s.settleCnt - 1)
  | .capturing =>
    if s.captureFull then s.closeWindow .complete
    else if s.budgetGone then s.closeWindow .timedOut
    else s.setBudget (s.budgetCnt - 1)
  | .complete => s.endCycle (resolveCells s.cells s.header)
  | .timedOut => s.endCycle (errorReport .captureTimeout 0)
  | .reserved110 => s.closeWindow .idle
  | .reserved111 => s.closeWindow .idle

/-- What a falling edge outside reset does, as a function of the state that holds its level. -/
def edgeNext (s : State) : State :=
  if s.samplerEn && s.hasRoom then
    (s.setBuf (Memory.write s.buf s.cursor.toNat (Memory.byteOf s.dataLine.isHigh))).setCursor (s.cursor + 1#7)
  else s

/-- The operation dispatched at a tick has its effect. -/
theorem exec_dispatched_tick (s : State) : exec (decodeSequencer s.sequencerWord.toNat) s = .next (tickNext s) := by
  unfold State.sequencerWord
  rw [decodeSequencer_bits]
  cases hc : s.capState with
  | idle => simp [tickNext, hc, exec, execCycleStart]
  | busWait => cases hf : s.frameActive <;> simp [tickNext, hc, hf, exec, execBusWait, execBusIdle]
  | settle => cases hz : s.settleDone <;> simp [tickNext, hc, hz, exec, execSettleWait, execArm]
  | capturing =>
    cases hk : s.captureFull <;> cases hb : s.budgetGone <;>
      simp [tickNext, hc, hk, hb, exec, execPoll, execCaptureDone, execCaptureTimeout]
  | complete => simp [tickNext, hc, exec, execDecodeReport]
  | timedOut => simp [tickNext, hc, exec, execTimeoutReport]
  | reserved110 => simp [tickNext, hc, exec, execStateFault]
  | reserved111 => simp [tickNext, hc, exec, execStateFault]

/-- The operation dispatched at an edge has its effect. -/
theorem exec_dispatched_edge (s : State) : exec (decodeSampler s.samplerWord.toNat) s = .next (edgeNext s) := by
  unfold State.samplerWord
  rw [decodeSampler_bits]
  cases he : s.samplerEn with
  | false => simp [edgeNext, he, exec, execEdgeDropOff]
  | true =>
    cases hl : s.hasRoom with
    | false => simp [edgeNext, he, hl, exec, execEdgeDropFull]
    | true =>
      have hlt : s.cursor.toNat < s.expected := by simpa [State.hasRoom] using hl
      simp [edgeNext, he, hl, exec, execSample, State.memWrite, hlt]

/-- A step whose next event is a tick. -/
theorem step_nextTick {s : State} (h : s.nextEvent = .tick) (hr : s.resetAsserted = false) :
    step s = .next (tickNext s.afterEvent) := by
  rw [step_of_run (i := decodeSequencer s.afterEvent.sequencerWord.toNat) (s' := s.afterEvent), exec_dispatched_tick]
  rw [fetch, h]
  exact fetchTick_of_running (by simpa using hr)

/-- A step whose next event is a falling edge. -/
theorem step_nextEdge {s : State} {l : Level} (h : s.nextEvent = .clkFall l) (hr : s.resetAsserted = false) :
    step s = .next (edgeNext (s.afterEvent.setDataLine l)) := by
  rw [step_of_run (i := decodeSampler (s.afterEvent.setDataLine l).samplerWord.toNat)
    (s' := s.afterEvent.setDataLine l), exec_dispatched_edge]
  rw [fetch, h]
  exact fetchEdge_of_running l (by simpa using hr)

/-- A step on a listed tick. -/
theorem step_tick {s : State} {es : List Event} (h : s.events = .tick :: es) (hr : s.resetAsserted = false) :
    step s = .next (tickNext (s.setEvents es)) := by
  rw [step_nextTick (nextEvent_of_cons h).1 hr, (nextEvent_of_cons h).2]

/-- A step on a listed falling edge. -/
theorem step_edge {s : State} {es : List Event} {l : Level} (h : s.events = .clkFall l :: es)
    (hr : s.resetAsserted = false) : step s = .next (edgeNext ((s.setEvents es).setDataLine l)) := by
  rw [step_nextEdge (nextEvent_of_cons h).1 hr, (nextEvent_of_cons h).2]

/-- With the list run out, a step is the one that the next stretch of the free bus begins with. -/
theorem step_of_nil {s : State} (h : s.events = []) :
    step s = step { s with events := freeStretch s.freeTicks, freeTicks := s.freeTicks + 1 } := by
  rw [step, fetch_of_nil h, ← step]

/-- A call by itself changes at most the model's own answer and its count of races. -/
def OnlyAnswers (s t : State) : Prop := t = { s with result := t.result, raceCount := t.raceCount }

theorem onlyAnswers_setResult (s : State) (r : FnResult) : OnlyAnswers s (s.setResult r) := rfl

theorem onlyAnswers_afterRead (s : State) (r : FnResult) : OnlyAnswers s (s.afterRead.setResult r) := by
  unfold State.afterRead
  split <;> rfl

/-- What a function or field operation does when it answers. -/
theorem exec_fn_onlyAnswers {c : FnChannel} {w : Nat} {i : Instr} {s t : State} (hd : decode (.fn c) w = .ok i)
    (h : exec i s = .next t) : OnlyAnswers s t := by
  unfold decode at hd
  split at hd
  · cases c with
    | readAddr =>
      cases hd
      simp only [exec, execReadAddr] at h
      split at h
      · cases h; exact onlyAnswers_afterRead _ _
      · cases h
    | readData =>
      cases hd
      simp only [exec, execReadData] at h
      split at h
      · cases h; exact onlyAnswers_afterRead _ _
      · cases h
    | digit => cases hd; cases h; rfl
    | stopFlag => cases hd; cases h; rfl
    | resolve => cases hd; cases h; rfl
    | packetAccepted =>
      simp only [decodeFn, decodeAccepted] at hd
      split at hd
      · next j hj =>
        split at hj
        · cases hd; cases hj
          simp only [exec, execPacketAccepted] at h
          split at h <;> (cases h; rfl)
        · cases hj
      · cases hd
    | addrField k =>
      simp only [decodeFn] at hd
      split at hd
      · cases hd
        fin_cases k <;> (cases h; rfl)
      · cases hd
    | digitField k =>
      simp only [decodeFn, decodeDigitField] at hd
      split at hd
      · next j hj =>
        cases hd
        split at hj
        · split at hj <;> first | (cases hj; cases h; rfl) | cases hj
        · cases hj
      · cases hd
    | sentinelField =>
      simp only [decodeFn] at hd
      split at hd
      · cases hd; cases h; rfl
      · cases hd
  · cases hd

/-- Everything a step that answers can do, by the event that comes next. -/
theorem step_cases {s t : State} (h : step s = .next t) :
    (s.nextEvent = .tick ∧
      (s.resetAsserted = false ∧ t = tickNext s.afterEvent ∨ s.resetAsserted = true ∧ t = s.afterEvent)) ∨
    (∃ l, s.nextEvent = .clkFall l ∧
      (s.resetAsserted = false ∧ t = edgeNext (s.afterEvent.setDataLine l) ∨
        s.resetAsserted = true ∧ t = s.afterEvent.setDataLine l)) ∨
    (∃ l, s.nextEvent = .frameLine l ∧ t = s.afterEvent.setFrameLine l) ∨
    (∃ l, s.nextEvent = .dataLine l ∧ t = s.afterEvent.setDataLine l) ∨
    (s.nextEvent = .reset true ∧ t = s.afterEvent.enterReset) ∨
    (s.nextEvent = .reset false ∧ t = s.afterEvent.leaveReset) ∨
    (∃ c w, s.nextEvent = .eval c w ∧ OnlyAnswers s.afterEvent t) := by
  have env {s' : State} (hf : fetch s = .env s') : t = s' := by
    rw [step_of_env hf] at h
    exact (Host.Outcome.next.inj h).symm
  cases he : s.nextEvent with
  | tick =>
    refine .inl ⟨rfl, ?_⟩
    cases hr : s.resetAsserted with
    | false =>
      rw [step_nextTick he hr] at h
      exact .inl ⟨rfl, (Host.Outcome.next.inj h).symm⟩
    | true => exact .inr ⟨rfl, env (by rw [fetch, he]; exact fetchTick_of_reset (by simpa using hr))⟩
  | clkFall l =>
    refine .inr (.inl ⟨l, rfl, ?_⟩)
    cases hr : s.resetAsserted with
    | false =>
      rw [step_nextEdge he hr] at h
      exact .inl ⟨rfl, (Host.Outcome.next.inj h).symm⟩
    | true => exact .inr ⟨rfl, env (by rw [fetch, he]; exact fetchEdge_of_reset l (by simpa using hr))⟩
  | frameLine l => exact .inr (.inr (.inl ⟨l, rfl, env (by rw [fetch, he]; rfl)⟩))
  | dataLine l => exact .inr (.inr (.inr (.inl ⟨l, rfl, env (by rw [fetch, he]; rfl)⟩)))
  | reset b =>
    cases b with
    | true => exact .inr (.inr (.inr (.inr (.inl ⟨rfl, env (by rw [fetch, he]; rfl)⟩))))
    | false => exact .inr (.inr (.inr (.inr (.inr (.inl ⟨rfl, env (by rw [fetch, he]; rfl)⟩)))))
  | eval c w =>
    refine .inr (.inr (.inr (.inr (.inr (.inr ⟨c, w, rfl, ?_⟩)))))
    have hf : fetch s = fetchWord (.fn c) w s.afterEvent := by rw [fetch, he]; rfl
    rcases fetchWord_eq (.fn c) w s.afterEvent with ⟨i, hi, hw⟩ | ⟨k, j, _, hw⟩ | ⟨_, hw⟩ | ⟨n, v, _, hw⟩
    · rw [step_of_run (hf.trans hw)] at h
      exact exec_fn_onlyAnswers hi h
    · rw [env (hf.trans hw)]
      exact onlyAnswers_setResult _ _
    · rw [env (hf.trans hw)]
      exact onlyAnswers_setResult _ _
    · rw [step_of_stop (hf.trans hw)] at h
      cases h

end Sys2Proof.Machine
end

