-- ==== Sys2Proof/Tests/Slice0.lean ====
section
/-! SUPPORT. Small checks on fixed values. Expected results come from spec/95_test_vectors.md (the vector is named), from
the encodings of spec/30_encoding.md and spec/opcode_table.json, or from the worked examples of the rules. The theorems
`test_hyp_<Statement>` give, for each statement with hypotheses, values that meet them together. -/

namespace Sys2Proof.Tests

open Sys2Proof Sys2Proof.Machine

/-! ## Helpers -/

/-- A reset machine with chosen straps. -/
def demo (v : Variant) (settle budget : Nat) : State :=
  { State.reset with straps := ⟨v, settle, budget, 32, .low⟩ }

/-- The legacy machine the tests use: `SETTLE_TICKS = 3`, `BUDGET_TICKS = 5`. -/
def legacy : State := demo .legacy 3 5

/-- The modern one. -/
def modern : State := demo .modern 3 5

/-- The BitBuffer that holds these cells. -/
def bufOf (bits : List Bool) : Memory := (bits.zipIdx.filter (·.1)).map fun p => (p.2, 1#8)

/-- An open window: cursor and budget. -/
def inWindow (s : State) (c b : Nat) : State :=
  { s with capState := .capturing, samplerEn := true, cursor := BitVec.ofNat 7 c, budgetCnt := b }

/-- A complete capture of these cells. -/
def complete (s : State) (bits : List Bool) : State :=
  { s with capState := .complete, cursor := BitVec.ofNat 7 s.expected, buf := bufOf bits }

/-- Cells from a list of digits 0 and 1, first bit first (spec/30_encoding.md R108). -/
def bits (l : List Nat) : List Bool := l.map fun n => n == 1

/-- The next state, where there is one. -/
def next? : Host.Outcome State Fault Refusal → Option State
  | .next t => some t
  | .fault _ => none
  | .refused _ => none

/-- The step on one tick. -/
def onTick (s : State) : Host.Outcome State Fault Refusal := step { s with events := [.tick] }

/-- The header of V-RR19 and P2. -/
def header36 : List Bool :=
  bits [1,0,1,0,0,1,0,1,1,0,1,0,0,1,0,1,1,0] ++ bits [1,0,0,1,0,1,1,0,1,0,0,1,0,1,1,0,1,0]

/-! ## WellFormed: the check refuses -/

theorem test_wf_refuses_first_pattern :
    (Instr.packetAccepted false 0x00#7 false false 0x05#7 false false 0x6B#7 false).wellFormed = false := by decide

theorem test_wf_refuses_second_pattern :
    (Instr.packetAccepted false 0x7D#7 false false 0x10#7 false false 0x6B#7 false).wellFormed = false := by decide

theorem test_wf_refuses_third_pattern :
    (Instr.packetAccepted false 0x7D#7 false false 0x05#7 false false 0x7B#7 false).wellFormed = false := by decide

theorem test_wf_accepts_patterns :
    (Instr.packetAccepted true 0x7D#7 true true 0x05#7 true true 0x6B#7 true).wellFormed = true := by decide

/-! ## Decoding: words written from the encodings -/

/-- The eleven patterns of R100, each with its free letters at 0 and at 1. -/
theorem test_decode_sequencer_words :
    decode .sequencer 0b0000000 = .ok (.cycleStart false false false false) ∧
    decode .sequencer 0b0001111 = .ok (.cycleStart true true true true) ∧
    decode .sequencer 0b0011000 = .ok (.busWait false false false) ∧
    decode .sequencer 0b0011111 = .ok (.busWait true true true) ∧
    decode .sequencer 0b0010000 = .ok (.busIdle false false false) ∧
    decode .sequencer 0b0010111 = .ok (.busIdle true true true) ∧
    decode .sequencer 0b0100000 = .ok (.settleWait false false false) ∧
    decode .sequencer 0b0101011 = .ok (.settleWait true true true) ∧
    decode .sequencer 0b0100100 = .ok (.arm false false false) ∧
    decode .sequencer 0b0101111 = .ok (.arm true true true) ∧
    decode .sequencer 0b0110000 = .ok (.poll false false) ∧
    decode .sequencer 0b0111100 = .ok (.poll true true) ∧
    decode .sequencer 0b0110010 = .ok (.captureDone false false false) ∧
    decode .sequencer 0b0111111 = .ok (.captureDone true true true) ∧
    decode .sequencer 0b0110001 = .ok (.captureTimeout false false) ∧
    decode .sequencer 0b0111101 = .ok (.captureTimeout true true) ∧
    decode .sequencer 0b1000000 = .ok (.decodeReport false false false false) ∧
    decode .sequencer 0b1001111 = .ok (.decodeReport true true true true) ∧
    decode .sequencer 0b1010000 = .ok (.timeoutReport false false false false) ∧
    decode .sequencer 0b1011111 = .ok (.timeoutReport true true true true) ∧
    decode .sequencer 0b1100000 = .ok (.stateFault false false false false false) ∧
    decode .sequencer 0b1111111 = .ok (.stateFault true true true true true) := by decide

/-- One letter at a time, so that no two letters of the word are exchanged. -/
theorem test_decode_sequencer_letters :
    decode .sequencer 0b0001000 = .ok (.cycleStart true false false false) ∧
    decode .sequencer 0b1000100 = .ok (.decodeReport false true false false) ∧
    decode .sequencer 0b1010010 = .ok (.timeoutReport false false true false) ∧
    decode .sequencer 0b1110001 = .ok (.stateFault true false false false true) ∧
    decode .sequencer 0b0111000 = .ok (.poll true false) ∧
    decode .sequencer 0b0110101 = .ok (.captureTimeout false true) := by decide

/-- The three patterns of R101. -/
theorem test_decode_sampler_words :
    decode .sampler 0b110 = .ok (.sample false) ∧ decode .sampler 0b111 = .ok (.sample true) ∧
    decode .sampler 0b100 = .ok (.edgeDropFull false) ∧ decode .sampler 0b101 = .ok (.edgeDropFull true) ∧
    decode .sampler 0b001 = .ok (.edgeDropOff false true) ∧
    decode .sampler 0b010 = .ok (.edgeDropOff true false) := by decide

/-- The operand words of R102: an offset, and `t p6..p0 s`. -/
theorem test_decode_operand_words :
    decode (.fn .readAddr) 0b0110011 = .ok (.readAddr 51#7) ∧
    decode (.fn .readData) 0b0111011 = .ok (.readData 59#7) ∧
    decode (.fn .digit) 0b011010110 = .ok (.digit false 0x6B#7 false) ∧
    decode (.fn .digit) 0b100000000 = .ok (.digit true 0x00#7 false) ∧
    decode (.fn .stopFlag) 0b011111011 = .ok (.stopFlag false 0x7D#7 true) := by decide

/-- The constant fields of R87, R88 and R90. -/
theorem test_decode_field_words :
    decode (.fn (.addrField 0)) 0b10100000 = .ok .addrFrame0 ∧
    decode (.fn (.addrField 1)) 0b10100001 = .ok .addrFrame1 ∧
    decode (.fn (.addrField 2)) 0b10100010 = .ok .addrFrame2 ∧
    decode (.fn (.addrField 3)) 0b10100011 = .ok .addrFrame3 ∧
    decode (.fn (.digitField 0)) 0b011111010 = .ok (.digit0 false false) ∧
    decode (.fn (.digitField 1)) 0b100001010 = .ok (.digit1 true false) ∧
    decode (.fn (.digitField 2)) 0b011010111 = .ok (.digit2 false true) ∧
    decode (.fn (.digitField 0)) 0b010011110 = .ok (.digit3 false false) ∧
    decode (.fn (.digitField 0)) 0b000101111 = .ok (.digit4 false true) ∧
    decode (.fn (.digitField 0)) 0b110111100 = .ok (.digit5 true false) ∧
    decode (.fn (.digitField 0)) 0b011111100 = .ok (.digit6 false false) ∧
    decode (.fn (.digitField 0)) 0b000011010 = .ok (.digit7 false false) ∧
    decode (.fn (.digitField 0)) 0b111111111 = .ok (.digit8 true true) ∧
    decode (.fn (.digitField 0)) 0b010111110 = .ok (.digit9 false false) ∧
    decode (.fn .sentinelField) 0b000100000 = .ok .sentinel := by decide

/-- P1's packet, 17 bits a frame: `A0:00A A1:0D6 A2:09E A3:020`. -/
def p1Word : Nat := 0b10100000000001010101000010110101101010001001001111010100011000100000

theorem test_decode_packet_word :
    decode (.fn .resolve) p1Word =
      .ok (.resolve ⟨0xA0#8, 0x00A#9, 0xA1#8, 0x0D6#9, 0xA2#8, 0x09E#9, 0xA3#8, 0x020#9⟩) ∧
    decode (.fn .packetAccepted) p1Word =
      .ok (.packetAccepted false 0x05#7 false false 0x6B#7 false false 0x4F#7 false) := by decide

/-- Wrong fields and words that are too wide are rejected by name. -/
theorem test_decode_rejects :
    decode (.fn (.addrField 3)) 0xA7 = .error (.checkFailed .addressMismatch 3) ∧
    decode (.fn (.addrField 0)) 0xA1 = .error (.checkFailed .addressMismatch 0) ∧
    decode (.fn (.digitField 2)) 0x000 = .error (.checkFailed .invalidDigit 2) ∧
    decode (.fn .sentinelField) 0x120 = .error (.checkFailed .sentinelMismatch 3) ∧
    decode (.fn .packetAccepted) (p1Word + 1) = .error .notAccepted ∧
    decode .sequencer 128 = .error (.wordTooWide 7 128) := by decide

/-- Words of the opcode table with their row's fixed bits, every other bit 0; rows without fixed bits are not here
(log entry 5). -/
theorem test_table_words :
    decodeTableWord 8 0x00 = some (.cycleStart false false false false) ∧
    decodeTableWord 8 0x18 = some (.busWait false false false) ∧
    decodeTableWord 8 0x10 = some (.busIdle false false false) ∧
    decodeTableWord 8 0x20 = some (.settleWait false false false) ∧
    decodeTableWord 8 0x24 = some (.arm false false false) ∧
    decodeTableWord 8 0x30 = some (.poll false false) ∧
    decodeTableWord 8 0x32 = some (.captureDone false false false) ∧
    decodeTableWord 8 0x31 = some (.captureTimeout false false) ∧
    decodeTableWord 8 0x40 = some (.decodeReport false false false false) ∧
    decodeTableWord 8 0x50 = some (.timeoutReport false false false false) ∧
    decodeTableWord 8 0x60 = some (.stateFault false false false false false) ∧
    decodeTableWord 8 0x06 = some (.sample false) ∧
    decodeTableWord 8 0x04 = some (.edgeDropFull false) ∧
    decodeTableWord 8 0xA2 = some .addrFrame2 ∧
    decodeTableWord 16 0x0FA = some (.digit0 false false) ∧
    decodeTableWord 16 0x020 = some .sentinel ∧
    decodeTableWord 16 0x000 = some (.digit false 0#7 false) ∧
    decodeTableWord 72 p1Word = some (.packetAccepted false 0x05#7 false false 0x6B#7 false false 0x4F#7 false) ∧
    decodeTableWord 72 0 = some (.resolve ⟨0#8, 0#9, 0#8, 0#9, 0#8, 0#9, 0#8, 0#9⟩) := by decide

/-- Those words run as the first operation after reset: none is refused. -/
theorem test_table_words_run :
    (([0x00, 0x18, 0x10, 0x20, 0x24, 0x30, 0x32, 0x31, 0x40, 0x50, 0x60, 0x06, 0x04, 0xA0, 0xA3] : List Nat).all
      fun w => (next? (step (State.reset.withFetchWord 8 w))).isSome) = true ∧
    (([0x0FA, 0x00A, 0x020, 0x000] : List Nat).all
      fun w => (next? (step (State.reset.withFetchWord 16 w))).isSome) = true ∧
    (next? (step (State.reset.withFetchWord 72 p1Word))).isSome = true := by decide

/-! ## The sequencer (V-PC) -/

/-- V-PC1. -/
theorem test_cycle_start :
    (next? (onTick { legacy with cursor := 68#7 })).map (fun t => (t.capState, t.cursor, t.buf)) =
      some (.busWait, 0#7, []) := by decide

/-- V-PC3. -/
theorem test_bus_wait :
    (next? (onTick { legacy with capState := .busWait, frameLine := .low })).map (fun t => (t.capState, t.settleCnt)) =
      some (.busWait, 0) := by decide

/-- V-PC4. -/
theorem test_bus_idle :
    (next? (onTick { legacy with capState := .busWait })).map (fun t => (t.capState, t.settleCnt)) =
      some (.settle, 3) := by decide

/-- V-PC7. -/
theorem test_settle_wait :
    (next? (onTick { legacy with capState := .settle, settleCnt := 1, frameLine := .low })).map
      (fun t => (t.capState, t.settleCnt)) = some (.settle, 0) := by decide

/-- V-PC8. -/
theorem test_arm :
    (next? (onTick { legacy with capState := .settle })).map (fun t => (t.capState, t.samplerEn, t.budgetCnt)) =
      some (.capturing, true, 5) := by decide

/-- V-PC9. -/
theorem test_poll :
    (next? (onTick (inWindow legacy 40 5))).map (fun t => (t.capState, t.samplerEn, t.budgetCnt)) =
      some (.capturing, true, 4) := by decide

/-- V-PC11, the tie. -/
theorem test_capture_done :
    (next? (onTick (inWindow legacy 68 0))).map (fun t => (t.capState, t.samplerEn)) = some (.complete, false) := by decide

/-- V-PC12. -/
theorem test_capture_timeout :
    (next? (onTick (inWindow legacy 67 0))).map (fun t => (t.capState, t.samplerEn, t.cursor)) =
      some (.timedOut, false, 67#7) := by decide

/-- V-PC14: 68 bits are not enough in the modern variant. -/
theorem test_capture_timeout_modern :
    (next? (onTick (inWindow modern 68 0))).map (fun t => t.capState) = some .timedOut := by decide

/-- V-PC15. -/
theorem test_decode_report :
    (next? (onTick (complete legacy (packetCells (dig 1 2 3 false))))).map
      (fun t => (t.reports, t.buf, t.capState, t.cursor)) =
      some ([⟨false, 1230#14, .none, 0, false⟩], [], .idle, 68#7) := by decide

/-- V-PC17. -/
theorem test_timeout_report :
    (next? (onTick { legacy with capState := .timedOut, cursor := 40#7, buf := [(0, 1#8), (2, 1#8)] })).map
      (fun t => (t.reports, t.buf, t.capState, t.cursor)) =
      some ([⟨true, 0#14, .captureTimeout, 0, false⟩], [], .idle, 40#7) := by decide

/-- R134. -/
theorem test_state_fault :
    (next? (onTick { legacy with capState := .reserved111, samplerEn := true })).map
      (fun t => (t.capState, t.samplerEn, t.reports)) = some (.idle, false, []) := by decide

/-! ## The sampler (V-BS) -/

/-- V-BS3, the last cell. -/
theorem test_sample_last_cell :
    (next? (step { inWindow legacy 67 5 with events := [.clkFall .high] })).map
      (fun t => (t.cursor, Memory.bit t.buf 67)) = some (68#7, true) := by decide

/-- V-BS9: 68 is not a limit in the modern variant; a 0 leaves the cell unlisted. -/
theorem test_sample_modern :
    (next? (step { inWindow modern 68 5 with events := [.clkFall .low] })).map (fun t => (t.cursor, t.buf)) =
      some (69#7, []) := by decide

/-- V-BS4. -/
theorem test_edge_drop_full :
    (next? (step { inWindow legacy 68 5 with events := [.clkFall .high] })).map (fun t => (t.cursor, t.buf)) =
      some (68#7, []) := by decide

/-- V-BS8. -/
theorem test_edge_drop_off :
    (next? (step { legacy with capState := .timedOut, cursor := 40#7, events := [.clkFall .high] })).map
      (fun t => (t.cursor, Memory.bit t.buf 40)) = some (40#7, false) := by decide

/-! ## The pure functions (V-FD, V-DM, V-RR) -/

/-- S5 and V-FD1, V-FD2, V-FD8, V-FD10: every step of the fold, and the reversed cells. -/
theorem test_fold_address :
    foldAddress [] = 0x01#8 ∧ foldAddress (bits [1]) = 0x03#8 ∧ foldAddress (bits [1,0,1,0]) = 0x1A#8 ∧
    foldAddress (bits [1,0,1,0,0,0,0]) = 0xD0#8 ∧ foldAddress (bits [1,0,1,0,0,0,0,0]) = 0xA0#8 ∧
    foldAddress (bits [0,0,0,0,0,1,0,1]) = 0x05#8 ∧ foldAddress (bits [1,1,1,1,1,1,1,1]) = 0xFF#8 ∧
    foldAddress (bits [1,0,0,0,0,0,0,0]) = 0x80#8 := by decide

/-- V-FD11 to V-FD15. -/
theorem test_fold_data :
    foldData (bits [0,0,0,1,0,0,0,0,0]) = 0x020#9 ∧ foldData (bits [0,1,1,1,1,1,0,1,0]) = 0x0FA#9 ∧
    foldData (bits [1,0,0,0,0,0,0,0,0]) = 0x100#9 ∧ foldData (bits [0,0,0,0,0,0,0,0,1]) = 0x001#9 ∧
    foldData (bits [1,1,1,1,1,1,1,1,1]) = 0x1FF#9 := by decide

/-- P2's packet in the modern buffer. -/
def p2 : State := complete modern (header36 ++ packetCells (dig 0 0 0 true))

/-- V-FD17, V-FD18: the same values as without the header. -/
theorem test_read_addr_modern :
    (next? (exec (.readAddr 17#7) p2)).bind (·.result) = some (.addr 0xA1#8) ∧
    (next? (exec (.readAddr 0#7) p2)).bind (·.result) = some (.addr 0xA0#8) := by decide

/-- V-FD21, V-FD22. -/
theorem test_read_addr_range :
    (next? (exec (.readAddr 60#7) legacy)).isSome = true ∧
    exec (.readAddr 61#7) legacy = .refused (.offsetOutOfRange 61#7) := ⟨by decide, rfl⟩

/-- V-FD19, V-FD20. -/
theorem test_read_data_range :
    (next? (exec (.readData 59#7) p2)).bind (·.result) = some (.data 0x020#9) ∧
    exec (.readData 60#7) p2 = .refused (.offsetOutOfRange 60#7) := ⟨by decide, rfl⟩

/-- V-FD12, R155's second example, at frame 0's data. -/
theorem test_read_data :
    (next? (exec (.readData 8#7) p2)).bind (·.result) = some (.data 0x0FA#9) := by decide

/-- V-DM1 to V-DM20. -/
theorem test_digit_vectors :
    ([(0x0FA, true, 0), (0x00A, true, 1), (0x0D6, true, 2), (0x09E, true, 3), (0x02E, true, 4), (0x0BC, true, 5),
      (0x0FC, true, 6), (0x01A, true, 7), (0x0FE, true, 8), (0x0BE, true, 9), (0x0FB, true, 0), (0x1FA, true, 0),
      (0x1FF, true, 8), (0x000, false, 0), (0x001, false, 0), (0x020, false, 0), (0x100, false, 0), (0x0F6, false, 0),
      (0x002, false, 0), (0x0F8, false, 0)] : List (Nat × Bool × Nat)).all
      (fun v => digitOf (BitVec.ofNat 9 v.1) == (v.2.1, BitVec.ofNat 4 v.2.2)) = true := by decide

/-- The digit operations by themselves answer the table of R88. -/
theorem test_digit_patterns_answer :
    ([(.digit0 true true, 0), (.digit1 true false, 1), (.digit2 false true, 2), (.digit3 false false, 3),
      (.digit4 false false, 4), (.digit5 false false, 5), (.digit6 false false, 6), (.digit7 false false, 7),
      (.digit8 false false, 8), (.digit9 false false, 9), (.digit false 0x17#7 true, 4)] : List (Instr × Nat)).all
      (fun v => (next? (exec v.1 legacy)).bind (·.result) == some (.digit true (BitVec.ofNat 4 v.2))) = true := by decide

/-- R172's examples. -/
theorem test_stop_flag :
    (next? (exec (.stopFlag false 0x7D#7 true) legacy)).bind (·.result) = some (.stop true) ∧
    (next? (exec (.stopFlag true 0x7D#7 false) legacy)).bind (·.result) = some (.stop false) := by decide

/-- R87, R90. -/
theorem test_constant_fields_answer :
    (next? (exec .addrFrame0 legacy)).bind (·.result) = some (.addressMatch 0) ∧
    (next? (exec .addrFrame1 legacy)).bind (·.result) = some (.addressMatch 1) ∧
    (next? (exec .addrFrame2 legacy)).bind (·.result) = some (.addressMatch 2) ∧
    (next? (exec .addrFrame3 legacy)).bind (·.result) = some (.addressMatch 3) ∧
    (next? (exec .sentinel legacy)).bind (·.result) = some .sentinelMatch := by decide

/-- The record of a legacy packet. -/
def resolved (k : Packet) : Report := resolveCells (packetCells k) 0

/-- V-RR3 to V-RR7. -/
theorem test_resolve_readings :
    resolved (dig 0 0 0 true) = ⟨false, 0#14, .none, 0, true⟩ ∧
    resolved (dig 9 9 9 false) = ⟨false, 9990#14, .none, 0, false⟩ ∧
    resolved (dig 0 0 1 false) = ⟨false, 10#14, .none, 0, false⟩ ∧
    resolved (dig 4 5 6 false) = ⟨false, 4560#14, .none, 0, false⟩ ∧
    resolved (pkt 0xA0 0x1FB 0xA1 0x1D7 0xA2 0x09F 0xA3 0x020) = ⟨false, 230#14, .none, 0, true⟩ := by decide

/-- V-RR8 to V-RR18. -/
theorem test_resolve_errors :
    resolved (pkt 0xA0 0x02E 0xA1 0x0BC 0xA2 0x0FC 0xA7 0x020) = ⟨true, 0#14, .addressMismatch, 3, false⟩ ∧
    resolved (pkt 0xA0 0x02E 0x21 0x0BC 0xA2 0x0FC 0xA3 0x020) = ⟨true, 0#14, .addressMismatch, 1, false⟩ ∧
    resolved (pkt 0xA1 0x02E 0xA0 0x0BC 0xA2 0x0FC 0xA3 0x020) = ⟨true, 0#14, .addressMismatch, 0, false⟩ ∧
    resolved (pkt 0xA0 0x02E 0xA1 0x0BC 0xA2 0x000 0xA3 0x020) = ⟨true, 0#14, .invalidDigit, 2, false⟩ ∧
    resolved (pkt 0xA0 0x02E 0xA1 0x0BC 0xA2 0x0FC 0xA3 0x021) = ⟨true, 0#14, .sentinelMismatch, 3, false⟩ ∧
    resolved (pkt 0xA0 0x02E 0xA1 0x0BC 0xA2 0x0FC 0xA3 0x120) = ⟨true, 0#14, .sentinelMismatch, 3, false⟩ ∧
    resolved (pkt 0xA0 0x000 0xA9 0x0BC 0xA2 0x0FC 0xA3 0x021) = ⟨true, 0#14, .invalidDigit, 0, false⟩ ∧
    resolved (pkt 0xA0 0x02E 0xA9 0x000 0xA2 0x0FC 0xA3 0x021) = ⟨true, 0#14, .addressMismatch, 1, false⟩ := by decide

/-- V-RR19 and V-RR20: with the right strap, and with the wrong one. -/
theorem test_resolve_header :
    resolveCells (header36 ++ packetCells (dig 0 0 0 true)) 36 = ⟨false, 0#14, .none, 0, true⟩ ∧
    resolveCells ((header36 ++ packetCells (dig 0 0 0 true)).take 68) 0 =
      ⟨true, 0#14, .addressMismatch, 0, false⟩ := by decide

/-- RESOLVE and PACKET_ACCEPTED by themselves on V-RR6. -/
theorem test_resolve_by_itself :
    (next? (exec (.resolve (dig 4 5 6 false)) modern)).bind (·.result) =
      some (.report ⟨false, 4560#14, .none, 0, false⟩) ∧
    (next? (exec (.packetAccepted false 0x17#7 false false 0x5E#7 false false 0x7E#7 true) legacy)).bind (·.result) =
      some (.report ⟨false, 4560#14, .none, 0, true⟩) := by decide

/-- R226. -/
theorem test_payload :
    payloadOf ⟨true, 0#14, .captureTimeout, 0, false⟩ = .err2 ∧ payloadOf ⟨false, 0#14, .none, 0, true⟩ = .stopped ∧
    payloadOf ⟨false, 1230#14, .none, 0, true⟩ = .reading 1230 := by decide

/-! ## Values that meet the hypotheses of the statements, clause by clause -/

theorem test_hyp_DecodeAfterEncodeIsIdentity :
    ∃ i : Instr, i = .packetAccepted true 0x7D#7 true true 0x5F#7 true true 0x0D#7 true ∧ i.wellFormed = true :=
  ⟨_, rfl, by decide⟩

theorem test_hyp_EncodeAfterDecodeIsIdentity :
    decode (.fn (.digitField 2)) 0x1FF = .ok (.digit8 true true) ∧
    decode .sequencer 0x7F = .ok (.stateFault true true true true true) ∧
    decode (.fn .resolve) 0 = .ok (.resolve ⟨0#8, 0#9, 0#8, 0#9, 0#8, 0#9, 0#8, 0#9⟩) := by decide

theorem test_hyp_FieldChecksNameTheCause :
    (∃ w, w < 256 ∧ w = 0xA0 + 3) ∧ (∃ w, w < 256 ∧ w ≠ 0xA0 + 0) ∧
    (∃ w, w < 512 ∧ w / 2 % 128 ∈ [0x7D, 0x05, 0x6B, 0x4F, 0x17, 0x5E, 0x7E, 0x0D, 0x7F, 0x5F]) ∧
    (∃ w, w < 512 ∧ w / 2 % 128 ∉ [0x7D, 0x05, 0x6B, 0x4F, 0x17, 0x5E, 0x7E, 0x0D, 0x7F, 0x5F]) ∧
    (∃ w, w < 512 ∧ w = 0x20) ∧ (∃ w, w < 512 ∧ w ≠ 0x20) :=
  ⟨⟨0xA3, by decide⟩, ⟨0xFF, by decide⟩, ⟨0x1FF, by decide⟩, ⟨0, by decide⟩, ⟨0x20, by decide⟩, ⟨0x1FF, by decide⟩⟩

theorem test_hyp_PlacedTableWordIsRunNext :
    decodeTableWord 8 0x7F = some (.stateFault true true true true true) ∧
    decodeTableWord 8 0x07 = some (.sample true) ∧ decodeTableWord 16 0x020 = some .sentinel := by decide

theorem test_hyp_StepRunsTheDecodedOperation :
    (∃ (s : State) (es : List Event) (i : Instr), s.events = .tick :: es ∧ s.resetAsserted = false ∧
      decode .sequencer s.sequencerWord.toNat = .ok i) ∧
    (∃ s : State, s.events = []) ∧
    (∃ (s : State) (es : List Event) (i : Instr) (l : Level), s.events = .clkFall l :: es ∧ s.resetAsserted = false ∧
      decode .sampler ({ s with dataLine := l } : State).samplerWord.toNat = .ok i) ∧
    (∃ (s : State) (es : List Event) (i : Instr) (fn : FnChannel) (w : Nat),
      s.events = .eval fn w :: es ∧ decode (.fn fn) w = .ok i) :=
  ⟨⟨{ legacy with events := [.tick] }, [], .cycleStart false true false true, by decide⟩,
    ⟨legacy, rfl⟩,
    ⟨{ inWindow legacy 67 0 with events := [.clkFall .high] }, [], .sample true, .high, by decide⟩,
    ⟨{ legacy with events := [.eval .digit 0x1FF] }, [], .digit true 0x7F#7 true, .digit, 0x1FF, by decide⟩⟩

theorem test_hyp_RejectedCallAnswersItsCause :
    (∃ (s : State) (es : List Event), s.events = .eval .sentinelField 0x120 :: es ∧
      decode (.fn .sentinelField) 0x120 = .error (.checkFailed .sentinelMismatch 3)) ∧
    (∃ (s : State) (es : List Event), s.events = .eval .packetAccepted 0 :: es ∧
      decode (.fn .packetAccepted) 0 = .error .notAccepted) ∧
    (∃ (s : State) (es : List Event), s.events = .eval .digit 512 :: es ∧ 2 ^ (Channel.fn .digit).width ≤ 512) :=
  ⟨⟨{ legacy with events := [.eval .sentinelField 0x120] }, [], by decide⟩,
    ⟨{ legacy with events := [.eval .packetAccepted 0] }, [], by decide⟩,
    ⟨{ legacy with events := [.eval .digit 512] }, [], by decide⟩⟩

/-- A machine held in reset with one event listed. -/
def held (e : Event) : State := { legacy with resetAsserted := true, events := [e] }

theorem test_hyp_ResetHoldsAndAbandons :
    ((held .tick).resetAsserted = true ∧ (held .tick).events = [.tick]) ∧
    ((held (.clkFall .high)).resetAsserted = true ∧ (held (.clkFall .high)).events = [.clkFall .high]) ∧
    ({ inWindow legacy 40 5 with events := [.reset true] } : State).events = [.reset true] ∧
    (held (.reset false)).events = [.reset false] := by decide

theorem test_hyp_LevelChangesTouchOnlyTheirLine :
    ({ legacy with events := [.frameLine .low] } : State).events = [.frameLine .low] ∧
    ({ legacy with events := [.dataLine .high] } : State).events = [.dataLine .high] := by decide

theorem test_hyp_TickFollowsTheTransitionTable :
    (∃ (s : State) (es : List Event), s.resetAsserted = false ∧ s.events = .tick :: es ∧ s.capState = .capturing ∧
      s.captureFull = true ∧ s.budgetGone = true) ∧
    (∃ (s : State) (es : List Event), s.resetAsserted = false ∧ s.events = .tick :: es ∧ s.capState = .reserved111) ∧
    (∃ s t : State, s.nextEvent ≠ .tick ∧ (∀ b, s.nextEvent ≠ .reset b) ∧ step s = .next t) :=
  ⟨⟨{ inWindow legacy 68 0 with events := [.tick] }, [], by decide⟩, ⟨{ legacy with capState := .reserved111, events := [.tick] }, [], by decide⟩,
    ⟨{ inWindow legacy 67 0 with events := [.clkFall .high] }, _, by decide, by decide, rfl⟩⟩

theorem test_hyp_CycleStartClearsBufferAndCursor :
    ∃ s : State, s.capState = .idle ∧ s.cursor = 68#7 := ⟨{ legacy with cursor := 68#7 }, by decide⟩

/-- Waiting on a busy bus. -/
def busy (es : List Event) : State := { legacy with capState := .busWait, frameLine := .low, events := es }

theorem test_hyp_BusWaitHangsWhileFrameAsserted :
    ((busy []).capState = .busWait ∧ (busy []).frameActive = true) ∧
    ∃ es, (busy es).capState = .busWait ∧ (busy es).frameActive = true ∧ (busy es).resetAsserted = false ∧
      (busy es).samplerEn = false ∧ (busy es).events = es ++ [] ∧ es.length = 3 ∧
      ∀ e ∈ es, e = .tick ∨ (∃ l, e = .clkFall l) ∨ ∃ l, e = .dataLine l := by
  refine ⟨by decide, [.tick, .clkFall .high, .dataLine .high], by decide, by decide, by decide, by decide, rfl, rfl, ?_⟩
  simp

theorem test_hyp_BusIdleLoadsSettleCounter :
    ∃ s : State, s.capState = .busWait ∧ s.frameActive = false := ⟨{ legacy with capState := .busWait }, by decide⟩

theorem test_hyp_SettleWaitCountsDown :
    ∃ s : State, s.capState = .settle ∧ s.settleCnt ≠ 0 ∧ s.settleCnt = 1 :=
  ⟨{ legacy with capState := .settle, settleCnt := 1 }, by decide⟩

/-- Settled, about to arm. -/
def settled : State := { legacy with capState := .settle }

theorem test_hyp_ArmOpensTheWindow :
    ∃ s : State, s.capState = .settle ∧ s.settleCnt = 0 ∧ Safe s :=
  ⟨settled, by decide, by decide, by constructor <;> decide⟩

theorem test_hyp_PollSpendsBudget :
    ∃ s : State, s.capState = .capturing ∧ s.cursor.toNat < s.expected ∧ s.cursor.toNat = 67 ∧ s.budgetCnt ≠ 0 :=
  ⟨inWindow legacy 67 1, by decide⟩

theorem test_hyp_CaptureDoneWinsTheTie :
    ∃ (s : State) (es : List Event), s.capState = .capturing ∧ s.cursor.toNat = s.expected ∧ s.budgetCnt = 0 ∧
      s.resetAsserted = false ∧ s.events = .tick :: es :=
  ⟨{ inWindow legacy 68 0 with events := [.tick] }, [], by decide⟩

theorem test_hyp_CaptureTimeoutKeepsPartialContents :
    ∃ s : State, s.capState = .capturing ∧ s.cursor.toNat < s.expected ∧ s.cursor.toNat = 103 ∧ s.budgetCnt = 0 :=
  ⟨inWindow modern 103 0, by decide⟩

theorem test_hyp_DecodeReportEmitsTheResolvedReport : ∃ s : State, s.capState = .complete := ⟨p2, by decide⟩

/-- A timed-out window with 40 samples. -/
def late : State := { legacy with capState := .timedOut, cursor := 40#7, buf := [(0, 1#8), (2, 1#8)] }

theorem test_hyp_TimeoutReportSkipsDecodeAndClears : ∃ s : State, s.capState = .timedOut := ⟨late, by decide⟩

theorem test_hyp_StateFaultRecoversToIdle :
    (∃ s : State, s.capState = .reserved110) ∧ ∃ s : State, s.capState = .reserved111 :=
  ⟨⟨{ legacy with capState := .reserved110 }, rfl⟩, ⟨{ legacy with capState := .reserved111 }, rfl⟩⟩

/-- For the first nine and the last two clauses `late` will do; a full window, an open one and a closed one for the rest. -/
theorem test_hyp_UndispatchedOperationsAreRefused :
    (late.capState ≠ .idle ∧ ¬(late.capState = .busWait ∧ late.frameActive = true) ∧
      ¬(late.capState = .busWait ∧ late.frameActive = false) ∧ ¬(late.capState = .settle ∧ late.settleCnt ≠ 0) ∧
      ¬(late.capState = .settle ∧ late.settleCnt = 0) ∧
      ¬(late.capState = .capturing ∧ late.cursor.toNat ≠ late.expected ∧ late.budgetCnt ≠ 0) ∧
      ¬(late.capState = .capturing ∧ late.cursor.toNat = late.expected) ∧
      ¬(late.capState = .capturing ∧ late.cursor.toNat ≠ late.expected ∧ late.budgetCnt = 0) ∧
      late.capState ≠ .complete ∧ late.capState ≠ .reserved110 ∧ late.capState ≠ .reserved111) ∧
    legacy.capState ≠ .timedOut ∧
    ¬((inWindow legacy 68 5).samplerEn = true ∧ (inWindow legacy 68 5).cursor.toNat < (inWindow legacy 68 5).expected) ∧
    ¬((inWindow legacy 67 5).samplerEn = true ∧ (inWindow legacy 67 5).expected ≤ (inWindow legacy 67 5).cursor.toNat) ∧
    (inWindow legacy 67 5).samplerEn = true := by decide

theorem test_hyp_SampleStoresAtCursorAndAdvances :
    ∃ (d : Bool) (s : State) (l : Level) (es : List Event), s.samplerEn = true ∧ s.cursor.toNat < s.expected ∧
      s.cursor.toNat + 1 = s.expected ∧ l.isHigh = d ∧ s.resetAsserted = false ∧ s.events = .clkFall l :: es :=
  ⟨true, { inWindow modern 103 5 with events := [.clkFall .high] }, .high, [], by decide⟩

theorem test_hyp_DroppedEdgesChangeNothing :
    (∃ s : State, s.samplerEn = true ∧ s.expected ≤ s.cursor.toNat ∧ s.cursor.toNat = 104) ∧
    (∃ s : State, s.samplerEn = false) ∧
    (∃ (s : State) (lv : Level) (es : List Event), s.expected ≤ s.cursor.toNat ∧ s.samplerEn = true ∧
      s.resetAsserted = false ∧ s.events = .clkFall lv :: es) ∧
    ∃ (s : State) (lv : Level) (es : List Event), s.samplerEn = false ∧ s.resetAsserted = false ∧
      s.events = .clkFall lv :: es :=
  ⟨⟨inWindow modern 104 5, by decide⟩, ⟨legacy, by decide⟩,
    ⟨{ inWindow legacy 68 5 with events := [.clkFall .high] }, .high, [], by decide⟩,
    ⟨{ legacy with events := [.clkFall .high] }, .high, [], by decide⟩⟩

theorem test_hyp_LastEdgeAndLastTickInEitherOrder :
    ∃ s : State, s.capState = .capturing ∧ s.samplerEn = true ∧ s.resetAsserted = false ∧
      s.cursor.toNat + 1 = s.expected ∧ s.budgetCnt = 0 := ⟨inWindow legacy 67 0, by decide⟩

theorem test_hyp_ReadAddrIsTheEightCellsInOrder :
    ∃ (o : BitVec 7) (s : State), s.samplerEn = false ∧ o.toNat ≤ 60 ∧ o = 60#7 := ⟨60#7, p2, by decide⟩

theorem test_hyp_ReadDataIsTheNineCellsInOrder :
    ∃ (o : BitVec 7) (s : State), s.samplerEn = false ∧ o.toNat ≤ 59 ∧ o = 59#7 := ⟨59#7, p2, by decide⟩

theorem test_hyp_OutOfRangeReadsAreRefused :
    (∃ o : BitVec 7, 60 < o.toNat ∧ o = 61#7) ∧ ∃ o : BitVec 7, 59 < o.toNat ∧ o = 60#7 :=
  ⟨⟨61#7, by decide⟩, ⟨60#7, by decide⟩⟩

theorem test_hyp_ReadsWithTheGateOpenComplete :
    ∃ s : State, s.samplerEn = true ∧ (60#7).toNat ≤ 60 ∧ (59#7).toNat ≤ 59 ∧ s.header + 60 + 7 < s.cursor.toNat ∧
      s.header + 59 + 8 < s.cursor.toNat := ⟨inWindow legacy 68 5, by decide⟩

theorem test_hyp_FoldsAreInjectiveAndLoseTheSeed :
    (∃ x y : List Bool, x.length = 8 ∧ y.length = 8 ∧ foldAddress x = foldAddress y) ∧
    ∃ x y : List Bool, x.length = 9 ∧ y.length = 9 ∧ foldData x = foldData y :=
  ⟨⟨wireBits 0xA0#8, wireBits 0xA0#8, by decide⟩, ⟨wireBits 0x020#9, wireBits 0x020#9, by decide⟩⟩

theorem test_hyp_ResolveRunsTheChecksInOrder :
    (packetCells (dig 1 2 3 false)).length = expectedBits .legacy ∧
    (header36 ++ packetCells (dig 0 0 0 true)).length = expectedBits .modern := by decide

theorem test_hyp_AcceptedPacketAnswersItsReading :
    (∀ n : Fin 10, (0x00#7) ≠ patternOfDigit n) ∧ (∀ n : Fin 10, (0x10#7) ≠ patternOfDigit n) := by decide

theorem test_hyp_ResolveAcceptsExactlyTheValidPackets :
    ∃ cells : List Bool, cells.length = expectedBits .modern := ⟨header36 ++ packetCells (dig 0 0 0 true), by decide⟩

theorem test_hyp_ResolveReadsThreeDigits :
    (header36.length = headerBits .modern ∧ ([] : List Bool).length = headerBits .legacy) ∧
    (∃ cells : List Bool, cells.length = expectedBits .legacy ∧
      readAddrAt cells (headerBits .legacy) (17 * (3 : Fin 4).val) ≠ some (0xA0#8 + BitVec.ofNat 8 (3 : Fin 4).val)) ∧
    (∃ cells : List Bool, cells.length = expectedBits .legacy ∧
      readDataAt cells (headerBits .legacy) (17 * (2 : Fin 3).val + 8) = some 0x000#9 ∧ (digitOf 0x000#9).1 = false) ∧
    ∃ cells : List Bool, cells.length = expectedBits .legacy ∧
      readDataAt cells (headerBits .legacy) 59 ≠ some 0x020#9 :=
  ⟨by decide, ⟨packetCells (pkt 0xA0 0x02E 0xA1 0x0BC 0xA2 0x0FC 0xA7 0x020), by decide⟩,
    ⟨packetCells (pkt 0xA0 0x02E 0xA1 0x0BC 0xA2 0x000 0xA3 0x020), by decide⟩,
    ⟨packetCells (pkt 0xA0 0x02E 0xA1 0x0BC 0xA2 0x0FC 0xA3 0x021), by decide⟩⟩

theorem test_hyp_ZeroReadingIsValidAndShownStopped :
    header36.length = headerBits .modern ∧ ([] : List Bool).length = headerBits .legacy := by decide

/-- A packet's checks before a slot pass: address and digit of the frames below `k`. -/
abbrev passedBelow (cells : List Bool) (k : Nat) : Prop :=
  ∀ j : Fin 3, j.val < k → readAddrAt cells 0 (17 * j.val) = some (0xA0#8 + BitVec.ofNat 8 j.val) ∧
    (digitOf ((readDataAt cells 0 (17 * j.val + 8)).getD 0#9)).1 = true

/-- V-RR8, V-RR11 and V-RR12: one wrong field, every check before it passed. -/
theorem test_hyp_AnyFailedCheckIsADecodeError :
    (∃ cells : List Bool, cells.length = expectedBits .legacy ∧ readAddrAt cells 0 51 ≠ some 0xA3#8 ∧
      passedBelow cells 3) ∧
    (∃ cells : List Bool, cells.length = expectedBits .legacy ∧ readDataAt cells 0 42 = some 0x000#9 ∧
      (digitOf 0x000#9).1 = false ∧ passedBelow cells 2 ∧ readAddrAt cells 0 34 = some 0xA2#8) ∧
    (∃ cells : List Bool, cells.length = expectedBits .legacy ∧ readDataAt cells 0 59 ≠ some 0x020#9 ∧
      passedBelow cells 3 ∧ readAddrAt cells 0 51 = some 0xA3#8) :=
  ⟨⟨packetCells (pkt 0xA0 0x02E 0xA1 0x0BC 0xA2 0x0FC 0xA7 0x020), by decide⟩,
    ⟨packetCells (pkt 0xA0 0x02E 0xA1 0x0BC 0xA2 0x000 0xA3 0x020), by decide⟩,
    ⟨packetCells (pkt 0xA0 0x02E 0xA1 0x0BC 0xA2 0x0FC 0xA3 0x021), by decide⟩⟩

/-- Two buffers that differ in two header cells and two free bits, and agree on cell 50. -/
theorem test_hyp_IgnoredBitsReachNoOutput :
    ∃ x y : List Bool, x.length = expectedBits .modern ∧ y.length = expectedBits .modern ∧ x ≠ y ∧
      (∀ i, headerBits .modern ≤ i → i - headerBits .modern ∉ [8, 16, 25, 33, 42, 50] → x[i]? = y[i]?) ∧
      x[headerBits .modern + 50]? = y[headerBits .modern + 50]? := by
  refine ⟨header36 ++ packetCells (pkt 0xA0 0x02E 0xA1 0x0BC 0xA2 0x0FC 0xA3 0x020),
    List.replicate 36 true ++ packetCells (pkt 0xA0 0x12F 0xA1 0x0BC 0xA2 0x0FC 0xA3 0x020),
    by decide, by decide, by decide, fun i h1 h2 => ?_, by decide⟩
  by_cases h : i < 104
  · have key : ∀ i < 104, 36 ≤ i → i - 36 ∉ [8, 16, 25, 33, 42, 50] →
        (header36 ++ packetCells (pkt 0xA0 0x02E 0xA1 0x0BC 0xA2 0x0FC 0xA3 0x020))[i]? =
          (List.replicate 36 true ++ packetCells (pkt 0xA0 0x12F 0xA1 0x0BC 0xA2 0x0FC 0xA3 0x020))[i]? := by decide
    exact key i h h1 h2
  · rw [List.getElem?_eq_none (Nat.le_of_not_lt h), List.getElem?_eq_none (Nat.le_of_not_lt h)]

theorem test_hyp_ResolvedRecordFieldsAreLegal :
    resolved (dig 9 9 9 true) = ⟨false, 9990#14, .none, 0, true⟩ ∧
    resolved (pkt 0xA0 0x02E 0xA1 0x0BC 0xA2 0x000 0xA3 0x020) = ⟨true, 0#14, .invalidDigit, 2, false⟩ ∧
    resolved (pkt 0xA0 0x02E 0xA1 0x0BC 0xA2 0x0FC 0xA3 0x021) = ⟨true, 0#14, .sentinelMismatch, 3, false⟩ := by decide

theorem test_hyp_HostPayloadFollowsErrAndRpm :
    (∃ r : Report, r.err = true) ∧ (∃ r : Report, r.err = false ∧ r.rpm = 0#14) ∧
    ∃ r : Report, r.err = false ∧ r.rpm ≠ 0#14 :=
  ⟨⟨⟨true, 0#14, .captureTimeout, 0, false⟩, rfl⟩, ⟨⟨false, 0#14, .none, 0, true⟩, by decide⟩,
    ⟨⟨false, 10#14, .none, 0, false⟩, by decide⟩⟩

theorem test_hyp_ErrorEntryReportsClearsAndIdles :
    (∃ (s : State) (es : List Event), s.resetAsserted = false ∧ s.capState = .capturing ∧
      s.cursor.toNat < s.expected ∧ s.cursor.toNat = 67 ∧ s.budgetCnt = 0 ∧ s.events = .tick :: .tick :: es) ∧
    ∃ (s : State) (es : List Event), s.resetAsserted = false ∧ s.capState = .complete ∧
      resolveChecks s.cells s.header = .error (.addressMismatch, 0) ∧ s.events = .tick :: es :=
  ⟨⟨{ inWindow legacy 67 0 with events := [.tick, .tick] }, [], by decide⟩,
    ⟨{ complete legacy [] with events := [.tick] }, [], by decide, by decide, rfl, rfl⟩⟩

theorem test_hyp_PartialDataDoesNotLeak :
    (∃ s : State, s.capState = .timedOut ∧ s.buf ≠ []) ∧ ∃ s : State, s.capState = .idle :=
  ⟨⟨late, by decide⟩, ⟨legacy, by decide⟩⟩

/-- A reset machine is safe, and it steps. -/
theorem test_hyp_EveryStepKeepsSafe : ∃ s t : State, Safe s ∧ step s = .next t :=
  ⟨{ legacy with events := [.tick] }, _, by constructor <;> decide, rfl⟩

theorem test_hyp_NoStepChangesTheStraps : ∃ s t : State, step s = .next t :=
  ⟨{ legacy with events := [.tick] }, _, rfl⟩

theorem test_hyp_StepNeverFaultsAndRefusesOnlyBadCalls :
    (∃ s : State, step s = .refused (.offsetOutOfRange 61#7)) ∧ (∃ s : State, step s = .refused (.offsetOutOfRange 60#7)) ∧
    (∃ s : State, step s = .refused (.operandTooWide 7 128)) ∧
    (∃ (s t : State) (e : Event) (es : List Event), s.events = e :: es ∧ step s = .next t) ∧
    ∃ s : State, s.events = [] :=
  ⟨⟨{ legacy with events := [.eval .readAddr 61] }, rfl⟩, ⟨{ legacy with events := [.eval .readData 60] }, rfl⟩,
    ⟨{ legacy with events := [.eval .readAddr 128] }, rfl⟩, ⟨{ legacy with events := [.tick] }, _, .tick, [], rfl, rfl⟩,
    ⟨legacy, rfl⟩⟩

theorem test_hyp_LeavingCapturingClosesTheGate :
    ∃ s t : State, step s = .next t ∧ s.capState = .capturing ∧ t.capState ≠ .capturing ∧ s.samplerEn = true :=
  ⟨{ inWindow legacy 68 0 with events := [.tick] }, _, rfl, by decide⟩

theorem test_hyp_GateChangesOnlyAtItsOperations :
    (∃ s t : State, step s = .next t ∧ t.samplerEn ≠ s.samplerEn ∧ s.capState = .settle) ∧
    ∃ s t : State, step s = .next t ∧ t.samplerEn ≠ s.samplerEn ∧ s.capState = .capturing :=
  ⟨⟨{ settled with events := [.tick] }, _, rfl, by decide⟩,
    ⟨{ inWindow legacy 67 0 with events := [.tick] }, _, rfl, by decide⟩⟩

theorem test_hyp_ReportsOnlyAtTheEndOfACycle :
    ∃ s t : State, step s = .next t ∧ t.reports ≠ s.reports := 
  ⟨{ late with events := [.tick] }, _, rfl, by decide⟩

theorem test_hyp_BufferAndCursorHaveFourWriters :
    ∃ s t : State, step s = .next t ∧ t.cursor ≠ s.cursor ∧ t.buf ≠ s.buf :=
  ⟨{ inWindow legacy 67 5 with events := [.clkFall .high] }, _, rfl, by decide⟩

theorem test_hyp_SettleDelayLastsItsTicks :
    ∃ (s : State) (rest : List Event), s.capState = .busWait ∧ s.frameActive = false ∧ s.resetAsserted = false ∧
      s.events = ticks (s.straps.settleTicks + 2) ++ rest ∧ 3 ≤ s.straps.settleTicks :=
  ⟨{ legacy with capState := .busWait, events := ticks 5 }, [], by decide⟩

/-- Edges and a change of the frame indicator between the polls of a window with budget for two. -/
def lateWindow : List Event := [.clkFall .high, .tick, .frameLine .low, .clkFall .low, .tick, .dataLine .high]

/-- With the last edge of these the cursor stands at 67 of 68. -/
theorem test_hyp_TimedOutWindowSpendsItsBudget :
    (∃ (s t : State) (rest : List Event), s.capState = .capturing ∧ s.resetAsserted = false ∧
      s.events = lateWindow ++ rest ∧ (∀ n ≤ lateWindow.length, ∃ u, steps n s = .next u ∧ u.capState = .capturing) ∧
      steps (lateWindow.length + 1) s = .next t ∧ t.capState = .timedOut ∧ s.budgetCnt = 2) ∧
    (∃ (s : State) (rest : List Event), s.capState = .capturing ∧ s.samplerEn = true ∧ s.resetAsserted = false ∧
      s.events = lateWindow ++ .tick :: rest ∧ (∀ e ∈ lateWindow, e.ofWindow = true) ∧
      s.cursor.toNat + (edgeLevels lateWindow).length = 67 ∧ s.expected = 68 ∧ lateWindow.count .tick = s.budgetCnt) ∧
    ∃ (s : State) (rest : List Event), s.capState = .capturing ∧ s.cursor.toNat < s.expected ∧ s.resetAsserted = false ∧
      s.events = ticks (s.budgetCnt + 1) ++ rest ∧ 5 ≤ s.budgetCnt := by
  refine ⟨⟨{ inWindow legacy 65 2 with events := lateWindow ++ [.tick] }, _, [.tick], by decide, by decide, rfl, ?_, rfl,
    by decide, by decide⟩, ⟨{ inWindow legacy 65 2 with events := lateWindow ++ [.tick] }, [], by decide⟩,
    ⟨{ inWindow legacy 67 5 with events := ticks 6 }, [], by decide⟩⟩
  intro n hn
  have h : n ≤ 6 := hn
  interval_cases n <;> exact ⟨_, rfl, rfl⟩

theorem test_hyp_SilentBusReportsATimeoutPerCycle :
    ∃ (s : State) (rest : List Event), s.capState = .idle ∧ s.frameActive = false ∧ s.resetAsserted = false ∧
      s.samplerEn = false ∧ s.events = ticks (s.straps.settleTicks + s.straps.budgetTicks + 5) ++ rest :=
  ⟨{ legacy with events := ticks 13 }, [], by decide⟩

/-- Two edges, a poll and a change of the frame indicator in a window with budget for one poll. -/
def shortWindow : List Event := [.clkFall .high, .tick, .frameLine .low, .clkFall .low]

theorem test_hyp_WindowCountsAndKeepsItsEdges :
    ∃ (s t : State) (es rest : List Event), s.capState = .capturing ∧ s.samplerEn = true ∧ s.resetAsserted = false ∧
      s.cursor = 0#7 ∧ s.events = es ++ rest ∧ (∀ e ∈ es, e.ofWindow = true) ∧
      (∀ n ≤ es.length, ∃ u, steps n s = .next u ∧ u.capState = .capturing) ∧ steps es.length s = .next t ∧
      t.cursor = 2#7 := by
  refine ⟨{ inWindow legacy 0 1 with events := shortWindow }, _, shortWindow, [], by decide, by decide, by decide,
    by decide, rfl, by decide, ?_, rfl, by decide⟩
  intro n hn
  have h : n ≤ 4 := hn
  interval_cases n <;> exact ⟨_, rfl, rfl⟩

/-- The packet of V-RR7, all its free bits set: digits 0, 2, 3. -/
def freeBits : Packet :=
  acceptedPacket true (patternOfDigit 0) true true (patternOfDigit 2) true false (patternOfDigit 3) true

/-- Its edges but the last, after one poll. -/
def freeBitsEdges : List Event := .tick :: (send (packetCells freeBits)).take 67

/-- P2's header: the nibbles 1010 and 0101, nine in all. -/
def p2Header : List Bool :=
  [true, false, true, false, false, true, false, true, true, false, true, false, false, true, false, true, true, false,
    true, false, false, true, false, true, true, false, true, false, false, true, false, true, true, false, true, false]

/-- P2's edges but the last. -/
def p2Edges : List Event := (send (p2Header ++ packetCells (dig 0 0 0 true))).take 103

/-- An edge, a change of the frame indicator: what may stand before and between the two ticks after the packet. -/
def surplus : List Event := [.clkFall .high, .frameLine .high]

theorem test_hyp_PacketInTheWindowYieldsItsReading :
    ∃ s : State, s.capState = .capturing ∧ s.samplerEn = true ∧ s.resetAsserted = false ∧ s.cursor = 0#7 ∧
      ([] : List Bool).length = s.header ∧
      s.events = freeBitsEdges ++ .clkFall .low :: (surplus ++ .tick :: (surplus ++ .tick :: [])) ∧
      (∀ e ∈ freeBitsEdges, e.ofWindow = true) ∧ (∀ e ∈ surplus ++ surplus, e.ofWindow = true ∧ e ≠ .tick) ∧
      edgeLevels freeBitsEdges ++ [Level.isHigh .low] = [] ++ packetCells freeBits ∧
      freeBitsEdges.count .tick ≤ s.budgetCnt ∧ s.budgetCnt = 1 :=
  ⟨{ inWindow legacy 0 1 with
      events := freeBitsEdges ++ .clkFall .low :: (surplus ++ .tick :: (surplus ++ .tick :: [])) },
    by decide, by decide, by decide, by decide, by decide, rfl, by decide, by decide, by decide, by decide, by decide⟩

/-- P2's packet, its surplus edges and the end of its frame are an instance in the modern variant. -/
theorem test_hyp_PacketInTheWindowYieldsItsReading_P2 :
    ∃ s : State, s.capState = .capturing ∧ s.samplerEn = true ∧ s.resetAsserted = false ∧ s.cursor = 0#7 ∧
      p2Header.length = s.header ∧
      s.events = p2Edges ++ .clkFall .low :: ([.clkFall .high, .clkFall .high, .frameLine .high] ++ .tick :: ([] ++ [.tick])) ∧
      (∀ e ∈ p2Edges, e.ofWindow = true) ∧
      edgeLevels p2Edges ++ [Level.isHigh .low] = p2Header ++ packetCells
        (acceptedPacket false (patternOfDigit 0) false false (patternOfDigit 0) false false (patternOfDigit 0) true) ∧
      p2Edges.count .tick ≤ s.budgetCnt :=
  ⟨{ inWindow modern 0 10 with
      events := p2Edges ++ .clkFall .low :: ([.clkFall .high, .clkFall .high, .frameLine .high] ++ .tick :: ([] ++ [.tick])) },
    by decide, by decide, by decide, by decide, by decide, rfl, by decide, by decide, by decide⟩

end Sys2Proof.Tests
end

section
/-! The sampler's SAMPLE (spec/40_bit_sampler.md R110): its effect named once, that effect's rules, and the statement
about it. -/

namespace Sys2Proof.Machine

/-- The largest buffer is the modern one, 36 header cells and 68 packet cells. -/
theorem expected_le (s : State) : s.expected ≤ 104 := by
  rw [State.expected]
  cases s.straps.variant <;> decide

theorem hasRoom_iff (s : State) : s.hasRoom = true ↔ s.cursor.toNat < s.expected := by simp [State.hasRoom]

/-- A cursor below the end of the buffer does not wrap when it advances: seven bits hold every buffer's size. -/
theorem cursor_succ_toNat {s : State} (h : s.cursor.toNat < s.expected) :
    (s.cursor + 1#7).toNat = s.cursor.toNat + 1 := by
  have hcap := expected_le s
  exact BitVec.toNat_add_of_lt (by simp only [BitVec.toNat_ofNat]; omega)

/-- The buffer after a sample of `d`. -/
def State.sampledBuf (s : State) (d : Bool) : Memory := Memory.write s.buf s.cursor.toNat (Memory.byteOf d)

theorem sampledBuf_bit_cursor (s : State) (d : Bool) : Memory.bit (s.sampledBuf d) s.cursor.toNat = d :=
  Memory.bit_write_same _ _ _

theorem sampledBuf_byteAt_other (s : State) (d : Bool) {a : Nat} (h : a ≠ s.cursor.toNat) :
    Memory.byteAt (s.sampledBuf d) a = Memory.byteAt s.buf a :=
  Memory.byteAt_write_other _ h

theorem exec_sample (d : Bool) (s : State) : exec (.sample d) s = execSample d s := by
  intros; rfl

/-- With the gate open and a cell left, SAMPLE fills the cell at the cursor and advances. -/
theorem exec_sample_of_room {s : State} (d : Bool) (hen : s.samplerEn = true) (hlt : s.cursor.toNat < s.expected) :
    exec (.sample d) s = .next { s with buf := s.sampledBuf d, cursor := s.cursor + 1#7 } := by
  have hroom := (hasRoom_iff s).2 hlt
  rcases memWrite_eq s s.cursor.toNat d with ⟨_, hwrite⟩ | ⟨hle, _⟩
  · rw [exec_sample, execSample, if_pos ⟨hen, hroom⟩, hwrite]
    rfl
  · exact absurd hlt (not_lt.2 hle)

/-- With the gate open and a cell left, an edge samples the level that came with it. -/
theorem edgeNext_of_room {s : State} (hen : s.samplerEn = true) (hlt : s.cursor.toNat < s.expected) :
    edgeNext s = { s with buf := s.sampledBuf s.dataLine.isHigh, cursor := s.cursor + 1#7 } := by
  have hroom := (hasRoom_iff s).2 hlt
  rw [edgeNext, if_pos (Bool.and_eq_true_iff.2 ⟨hen, hroom⟩)]
  rfl

/-- Settles O25: the witnesses are the buffer after the sample and the advanced cursor. -/
theorem sampleStoresAtCursorAndAdvances : Obligations.SampleStoresAtCursorAndAdvances := by
  intro d s hen hlt
  refine ⟨s.sampledBuf d, s.cursor + 1#7, exec_sample_of_room d hen hlt, cursor_succ_toNat hlt,
    sampledBuf_bit_cursor s d, fun _ ha => sampledBuf_byteAt_other s d ha, ?_⟩
  rintro l es rfl hr hes
  rw [step_edge hes hr, edgeNext_of_room (s := (s.setEvents es).setDataLine l) hen hlt]
  rfl

end Sys2Proof.Machine
end

section
/-! The capture sequencer (spec/41_packet_capture.md): the transition table of R120, the effects of the operations on the
way into and out of a capture window, and the wait for the bus of R122. -/

namespace Sys2Proof.Machine

/-! ### Condition bits -/

theorem settleDone_iff (s : State) : s.settleDone = true ↔ s.settleCnt = 0 := by simp [State.settleDone]

theorem captureFull_eq_false_iff (s : State) : s.captureFull = false ↔ s.cursor.toNat ≠ s.expected := by
  simp [State.captureFull]

theorem budgetGone_iff (s : State) : s.budgetGone = true ↔ s.budgetCnt = 0 := by simp [State.budgetGone]

theorem expected_pos (s : State) : 0 < s.expected := by
  rw [expected_eq]
  omega

/-! ### Effects of the sequencer's operations, each under its `when` -/

/-- R121. -/
theorem exec_cycleStart_of_idle {s : State} (f z c b : Bool) (hc : s.capState = .idle) :
    exec (.cycleStart f z c b) s = .next { s with cursor := 0#7, buf := [], capState := .busWait } := if_pos hc

/-- R122. -/
theorem exec_busWait_of_frameActive {s : State} (z c b : Bool) (hc : s.capState = .busWait)
    (hf : s.frameActive = true) : exec (.busWait z c b) s = .next s := if_pos ⟨hc, hf⟩

/-- R126. -/
theorem exec_arm_of_settleDone {s : State} (f c b : Bool) (hc : s.capState = .settle) (hz : s.settleDone = true) :
    exec (.arm f c b) s =
      .next { s with budgetCnt := s.straps.budgetTicks, samplerEn := true, capState := .capturing } :=
  if_pos ⟨hc, hz⟩

/-- R129. -/
theorem exec_captureTimeout_of_budgetGone {s : State} (f z : Bool) (hc : s.capState = .capturing)
    (hk : s.captureFull = false) (hb : s.budgetGone = true) :
    exec (.captureTimeout f z) s = .next { s with samplerEn := false, capState := .timedOut } := if_pos ⟨hc, hk, hb⟩

/-- R132. -/
theorem exec_timeoutReport_of_timedOut {s : State} (f z c b : Bool) (hc : s.capState = .timedOut) :
    exec (.timeoutReport f z c b) s = .next (s.endCycle (errorReport .captureTimeout 0)) := if_pos hc

/-! ### The transition table -/

/-- The next-state column of the transition table (R120). -/
def tableState (s : State) : CapState :=
  match s.capState with
  | .idle => .busWait
  | .busWait => if s.frameActive then .busWait else .settle
  | .settle => if s.settleDone then .capturing else .settle
  | .capturing => if s.captureFull then .complete else if s.budgetGone then .timedOut else .capturing
  | .complete | .timedOut | .reserved110 | .reserved111 => .idle

theorem tickNext_capState (s : State) : (tickNext s).capState = tableState s := by
  cases hc : s.capState with
  | idle => simp [tickNext, tableState, hc]
  | busWait => cases hf : s.frameActive <;> simp [tickNext, tableState, hc, hf]
  | settle => cases hz : s.settleDone <;> simp [tickNext, tableState, hc, hz]
  | capturing =>
    cases hk : s.captureFull <;> cases hb : s.budgetGone <;> simp [tickNext, tableState, hc, hk, hb]
  | complete => simp [tickNext, tableState, hc]
  | timedOut => simp [tickNext, tableState, hc]
  | reserved110 => simp [tickNext, tableState, hc]
  | reserved111 => simp [tickNext, tableState, hc]

@[simp] theorem edgeNext_capState (s : State) : (edgeNext s).capState = s.capState := by
  unfold edgeNext
  split <;> rfl

theorem OnlyAnswers.capState_eq {s t : State} (h : OnlyAnswers s t) : t.capState = s.capState := by rw [h]

/-- `cap_state` belongs to the sequencer: apart from its ticks only the `reset` input writes it. -/
theorem step_capState_of_not_tick_of_not_reset {s t : State} (htick : s.nextEvent ≠ .tick)
    (hreset : ∀ b, s.nextEvent ≠ .reset b) (h : step s = .next t) : t.capState = s.capState := by
  rcases step_cases h with ⟨he, _⟩ | ⟨l, _, ⟨_, rfl⟩ | ⟨_, rfl⟩⟩ | ⟨l, _, rfl⟩ | ⟨l, _, rfl⟩ | ⟨he, _⟩ | ⟨he, _⟩ |
    ⟨c, w, _, ha⟩
  · exact absurd he htick
  · simp
  · simp
  · simp
  · simp
  · exact absurd he (hreset true)
  · exact absurd he (hreset false)
  · simpa using ha.capState_eq

/-- Settles O12: the operation is the one the bits of the dispatch word select, and the state is the one that the
effect of the tick leaves. -/
theorem tickFollowsTheTransitionTable : Obligations.TickFollowsTheTransitionTable := by
  refine ⟨fun s es hr hes => ⟨?_, _, step_tick hes hr, tickNext_capState _⟩,
    fun s t => step_capState_of_not_tick_of_not_reset⟩
  exact (decode_sequencer s.sequencerWord.isLt).trans (congrArg Except.ok (decodeSequencer_bits ..))

/-! ### Waiting for the bus -/

/-- The block waits in `BusWait` for a packet in progress to end, out of reset and with the gate closed. -/
structure HeldByFrame (s : State) : Prop where
  busWait : s.capState = .busWait
  frameActive : s.frameActive = true
  running : s.resetAsserted = false
  gateClosed : s.samplerEn = false

/-- The events that leave the frame-indicator line and the `reset` input alone: ticks, edges, data-line changes. -/
def Event.KeepsFrame (e : Event) : Prop := e = .tick ∨ (∃ l, e = .clkFall l) ∨ ∃ l, e = .dataLine l

/-- The wait reads neither the schedule nor the data line. -/
theorem HeldByFrame.with_events_dataLine {s : State} (h : HeldByFrame s) (es : List Event) (l : Level) :
    HeldByFrame { s with events := es, dataLine := l } :=
  ⟨h.busWait, h.frameActive, h.running, h.gateClosed⟩

theorem HeldByFrame.tickNext_eq {s : State} (h : HeldByFrame s) : tickNext s = s := by
  simp [tickNext, h.busWait, h.frameActive]

theorem edgeNext_of_gateClosed {s : State} (h : s.samplerEn = false) : edgeNext s = s := by simp [edgeNext, h]

theorem step_dataLine {s : State} {es : List Event} {l : Level} (h : s.events = .dataLine l :: es) :
    step s = .next { s with events := es, dataLine := l } :=
  step_of_env (fetch_of_cons h)

/-- While the block is held no such event changes more than the data line. -/
theorem HeldByFrame.step_eq {s : State} {e : Event} {es : List Event} (h : HeldByFrame s) (he : e.KeepsFrame)
    (hes : s.events = e :: es) : ∃ l, step s = .next { s with events := es, dataLine := l } := by
  rcases he with rfl | ⟨l, rfl⟩ | ⟨l, rfl⟩
  · have hheld : HeldByFrame (s.setEvents es) := h.with_events_dataLine es s.dataLine
    refine ⟨s.dataLine, ?_⟩
    rw [step_tick hes h.running, hheld.tickNext_eq]
    rfl
  · refine ⟨l, ?_⟩
    rw [step_edge hes h.running, edgeNext_of_gateClosed (by simpa using h.gateClosed)]
    rfl
  · exact ⟨l, step_dataLine hes⟩

theorem steps_succ_of_step {s t : State} (n : Nat) (h : step s = .next t) : steps (n + 1) s = steps n t := by
  rw [steps, h]

/-- R122, R257: the wait has no timeout; it lasts as long as the frame indicator stays asserted. -/
theorem HeldByFrame.steps_eq {es rest : List Event} {s : State} (h : HeldByFrame s) (hes : s.events = es ++ rest)
    (hkeeps : ∀ e ∈ es, e.KeepsFrame) :
    ∃ l, steps es.length s = .next { s with events := rest, dataLine := l } := by
  induction es generalizing s with
  | nil =>
    obtain rfl : s.events = rest := hes
    exact ⟨s.dataLine, rfl⟩
  | cons e es ih =>
    obtain ⟨l, hstep⟩ := h.step_eq (hkeeps e List.mem_cons_self) hes
    obtain ⟨l', hsteps⟩ := ih (h.with_events_dataLine (es ++ rest) l) rfl
      fun e he => hkeeps e (List.mem_cons_of_mem _ he)
    exact ⟨l', (steps_succ_of_step es.length hstep).trans hsteps⟩

/-- Settles O14, by induction on the events that come during the wait. -/
theorem busWaitHangsWhileFrameAsserted : Obligations.BusWaitHangsWhileFrameAsserted :=
  ⟨fun z c b _ hc hf => exec_busWait_of_frameActive z c b hc hf,
    fun _ _ _ hc hf hr hg hes hkeeps => HeldByFrame.steps_eq ⟨hc, hf, hr, hg⟩ hes hkeeps⟩

/-! ### Opening and leaving the window -/

/-- The sample at cursor 0 fills cell 0, and the next one will fill cell 1. -/
theorem exec_sample_at_zero {s : State} (d : Bool) (hen : s.samplerEn = true) (hcur : s.cursor = 0#7) :
    ∃ u, exec (.sample d) s = .next u ∧ Memory.bit u.buf 0 = d ∧ u.cursor = 1#7 := by
  have hzero : s.cursor.toNat = 0 := by rw [hcur]; rfl
  refine ⟨_, exec_sample_of_room d hen (hzero ▸ expected_pos s), ?_, by rw [hcur]; rfl⟩
  simpa only [hzero] using sampledBuf_bit_cursor s d

/-- Settles O17: the invariant I4 gives the zero cursor and the empty buffer, and ARM touches neither. -/
theorem armOpensTheWindow : Obligations.ArmOpensTheWindow := by
  intro f c b s hc hz
  refine ⟨_, exec_arm_of_settleDone f c b hc ((settleDone_iff s).2 hz), rfl, fun hsafe => ?_⟩
  obtain ⟨hempty, hcursor⟩ := hsafe.emptyBetweenWindows
  have hcur : s.cursor = 0#7 := hcursor (by simp [hc])
  exact ⟨hcur, hempty (by simp [hc]), fun d => exec_sample_at_zero d rfl hcur⟩

/-- Settles O20: below EXPECTED_BITS the buffer is not full, so the spent budget decides. -/
theorem captureTimeoutKeepsPartialContents : Obligations.CaptureTimeoutKeepsPartialContents := by
  intro f z s hc hlt hb
  exact exec_captureTimeout_of_budgetGone f z hc ((captureFull_eq_false_iff s).2 hlt.ne) ((budgetGone_iff s).2 hb)

/-- Settles O22: the cycle ends in Idle with the cursor as it was, and it is CYCLE_START that puts it to 0. -/
theorem timeoutReportSkipsDecodeAndClears : Obligations.TimeoutReportSkipsDecodeAndClears := by
  intro f z c b s hc
  exact ⟨_, exec_timeoutReport_of_timedOut f z c b hc, rfl, Memory.byteAt_cleared,
    _, exec_cycleStart_of_idle f z c b rfl, rfl, rfl⟩

end Sys2Proof.Machine
end

section
/-! Reading the eight fields of a packet (spec/42_frame_decoder.md R150, R155; spec/20_memory.md R59): each fold gives back
the field that the cells transmit, behind any header. -/

namespace Sys2Proof.Machine

/-! ### The folds -/

/-- One step of either fold: shift left, exclusive-or with the sample. -/
def shiftIn {w : Nat} (v : BitVec w) (b : Bool) : BitVec w := (v <<< 1) ^^^ (BitVec.ofBool b).setWidth w

theorem foldAddress_eq_foldl_shiftIn (bits : List Bool) : foldAddress bits = bits.foldl shiftIn 1#8 := rfl

theorem foldData_eq_foldl_shiftIn (bits : List Bool) : foldData bits = bits.foldl shiftIn 0#9 := rfl

/-- The sample becomes bit 0, every other bit moves up by one. -/
theorem getLsbD_shiftIn {w i : Nat} (v : BitVec w) (b : Bool) (hi : i < w) :
    (shiftIn v b).getLsbD i = if i = 0 then b else v.getLsbD (i - 1) := by
  cases i with
  | zero => simp [shiftIn, hi]
  | succ i => simp [shiftIn, hi, BitVec.getLsbD_eq_getElem (Nat.lt_of_succ_lt hi)]

/-- After the first `n` bits of a field, the low `n` bits are those, and the seed stands above them. -/
theorem getLsbD_foldl_shiftIn_range {w : Nat} (seed v : BitVec w) (n : Nat) {i : Nat} (hi : i < w) :
    (((List.range n).map v.getMsbD).foldl shiftIn seed).getLsbD i =
      if i < n then v.getMsbD (n - 1 - i) else seed.getLsbD (i - n) := by
  induction n generalizing i with
  | zero => simp
  | succ n ih =>
    rw [List.range_succ, List.map_append, List.foldl_append, List.map_singleton, List.foldl_cons, List.foldl_nil,
      getLsbD_shiftIn _ _ hi]
    cases i with
    | zero => simp
    | succ i =>
      rw [if_neg (Nat.succ_ne_zero i), Nat.add_sub_cancel, ih (Nat.lt_of_succ_lt hi)]
      simp only [Nat.succ_lt_succ_iff, Nat.add_sub_cancel, Nat.add_sub_add_right, Nat.sub_sub, Nat.add_comm 1 i]

/-- The bits of a field, folded from any seed, give the field back: the seed is shifted out. -/
theorem foldl_shiftIn_wireBits {w : Nat} (seed v : BitVec w) : (wireBits v).foldl shiftIn seed = v := by
  refine BitVec.eq_of_getLsbD_eq fun i hi => ?_
  rw [wireBits, getLsbD_foldl_shiftIn_range seed v w hi, if_pos hi, BitVec.getLsbD_eq_getMsbD]
  simp [hi]

theorem foldAddress_wireBits (a : BitVec 8) : foldAddress (wireBits a) = a := foldl_shiftIn_wireBits 1#8 a

theorem foldData_wireBits (d : BitVec 9) : foldData (wireBits d) = d := foldl_shiftIn_wireBits 0#9 d

/-! ### Reads in range -/

/-- An address read in range has a value. -/
theorem readAddrAt_of_le {cells : List Bool} {header o : Nat} (h : header + o + 8 ≤ cells.length) :
    readAddrAt cells header o = some (foldAddress ((cells.drop (header + o)).take 8)) := by
  rw [readAddrAt, correctedOffset, memRead_of_le h, Option.map_some]

/-- A data read in range has a value. -/
theorem readDataAt_of_le {cells : List Bool} {header o : Nat} (h : header + o + 9 ≤ cells.length) :
    readDataAt cells header o = some (foldData ((cells.drop (header + o)).take 9)) := by
  rw [readDataAt, correctedOffset, memRead_of_le h, Option.map_some]

/-- A read past the header does not see it. -/
theorem memRead_append_left (hdr cells : List Bool) (o n : Nat) :
    memRead (hdr ++ cells) (hdr.length + o) n = memRead cells o n := by
  simp [memRead, Nat.add_assoc, List.drop_append, List.drop_eq_nil_of_le]

theorem readAddrAt_append {hdr cells : List Bool} {o : Nat} {a : BitVec 8} (h : memRead cells o 8 = some (wireBits a)) :
    readAddrAt (hdr ++ cells) hdr.length o = some a := by
  rw [readAddrAt, correctedOffset, memRead_append_left, h, Option.map_some, foldAddress_wireBits]

theorem readDataAt_append {hdr cells : List Bool} {o : Nat} {d : BitVec 9} (h : memRead cells o 9 = some (wireBits d)) :
    readDataAt (hdr ++ cells) hdr.length o = some d := by
  rw [readDataAt, correctedOffset, memRead_append_left, h, Option.map_some, foldData_wireBits]

/-! ### The packet that a buffer holds -/

/-- The eight reads of RESOLVE (spec/20_memory.md R59) have the fields of the packet as their values. -/
structure ReadsPacket (cells : List Bool) (header : Nat) (k : Packet) : Prop where
  a : readAddrAt cells header 0 = some k.a
  d : readDataAt cells header 8 = some k.d
  b : readAddrAt cells header 17 = some k.b
  e : readDataAt cells header 25 = some k.e
  c : readAddrAt cells header 34 = some k.c
  f : readDataAt cells header 42 = some k.f
  g : readAddrAt cells header 51 = some k.g
  h : readDataAt cells header 59 = some k.h

/-- A buffer of the right length holds some packet: the eight reads are in range (spec/20_memory.md R54). -/
theorem exists_readsPacket {v : Variant} {cells : List Bool} (hlen : cells.length = expectedBits v) :
    ∃ k : Packet, ReadsPacket cells (headerBits v) k := by
  have hle {o : Nat} (ho : o ≤ 68) : headerBits v + o ≤ cells.length := by
    rw [hlen, expectedBits]
    omega
  exact ⟨⟨_, _, _, _, _, _, _, _⟩,
    { a := readAddrAt_of_le (hle (o := 8) (by decide))
      d := readDataAt_of_le (hle (o := 17) (by decide))
      b := readAddrAt_of_le (hle (o := 25) (by decide))
      e := readDataAt_of_le (hle (o := 34) (by decide))
      c := readAddrAt_of_le (hle (o := 42) (by decide))
      f := readDataAt_of_le (hle (o := 51) (by decide))
      g := readAddrAt_of_le (hle (o := 59) (by decide))
      h := readDataAt_of_le (hle (o := 68) (by decide)) }⟩

/-- The cells of a packet, behind any header, hold that packet. -/
theorem readsPacket_append (hdr : List Bool) (k : Packet) : ReadsPacket (hdr ++ packetCells k) hdr.length k where
  a := readAddrAt_append rfl
  d := readDataAt_append rfl
  b := readAddrAt_append rfl
  e := readDataAt_append rfl
  c := readAddrAt_append rfl
  f := readDataAt_append rfl
  g := readAddrAt_append rfl
  h := readDataAt_append rfl

end Sys2Proof.Machine
end

section
/-! RESOLVE (spec/44_rpm_resolver.md): what each frame's check answers, the record as one chain of the eight checks, and
the first failure. -/

namespace Sys2Proof.Machine

/-! ### One frame -/

/-- A digit frame whose two fields are read answers its first failed check, or its data value and numeral. -/
theorem resolveDigitFrame_of_reads {cells : List Bool} {header : Nat} {k : Fin 3} {a : BitVec 8} {d : BitVec 9}
    (ha : readAddrAt cells header (addrOffset k.val) = some a)
    (hd : readDataAt cells header (dataOffset k.val) = some d) :
    resolveDigitFrame cells header k =
      if a ≠ expectedAddress k.castSucc then .error (.addressMismatch, k.castSucc)
      else if (digitOf d).1 = false then .error (.invalidDigit, k.castSucc)
      else .ok (d, (digitOf d).2.toNat) := by
  have haddr : checkAddress cells header k.castSucc =
      if a ≠ expectedAddress k.castSucc then .error (.addressMismatch, k.castSucc) else .ok () := by
    simp [checkAddress, ha]
  rw [resolveDigitFrame, haddr]
  by_cases hexp : a = expectedAddress k.castSucc
  · cases hvalid : (digitOf d).1 <;> simp [hexp, hd, hvalid]
  · simp [hexp]

/-- Frame 3, its two fields read, answers its first failed check. -/
theorem resolveSentinelFrame_of_reads {cells : List Bool} {header : Nat} {a : BitVec 8} {d : BitVec 9}
    (ha : readAddrAt cells header 51 = some a) (hd : readDataAt cells header 59 = some d) :
    resolveSentinelFrame cells header =
      if a ≠ 0xA3#8 then .error (.addressMismatch, 3)
      else if d ≠ 0x020#9 then .error (.sentinelMismatch, 3)
      else .ok () := by
  have hcases := resolveSentinelFrame_eq cells header
  simp only [ha, hd, ne_eq, Option.some.injEq] at hcases
  rcases hcases with ⟨rfl, rfl, h⟩ | ⟨haddr, h⟩ | ⟨rfl, hdata, h⟩
  · exact h
  · rw [h, if_pos haddr]
  · rw [h, if_neg (not_not.2 rfl), if_pos hdata]

/-! ### The whole record -/

/-- The record of a packet: the eight checks in order, the first failure or the weighted sum (R180). -/
def packetReport (k : Packet) : Report :=
  if k.a ≠ 0xA0#8 then ⟨true, 0#14, .addressMismatch, 0, false⟩
  else if (digitOf k.d).1 = false then ⟨true, 0#14, .invalidDigit, 0, false⟩
  else if k.b ≠ 0xA1#8 then ⟨true, 0#14, .addressMismatch, 1, false⟩
  else if (digitOf k.e).1 = false then ⟨true, 0#14, .invalidDigit, 1, false⟩
  else if k.c ≠ 0xA2#8 then ⟨true, 0#14, .addressMismatch, 2, false⟩
  else if (digitOf k.f).1 = false then ⟨true, 0#14, .invalidDigit, 2, false⟩
  else if k.g ≠ 0xA3#8 then ⟨true, 0#14, .addressMismatch, 3, false⟩
  else if k.h ≠ 0x020#9 then ⟨true, 0#14, .sentinelMismatch, 3, false⟩
  else ⟨false, BitVec.ofNat 14 ((digitOf k.d).2.toNat * 1000 + (digitOf k.e).2.toNat * 100 +
    (digitOf k.f).2.toNat * 10), .none, 0, k.f.getLsbD 0⟩

/-- RESOLVE answers the record of the packet its buffer holds: one case for each check that can be the first to fail, and
one for none. -/
theorem ReadsPacket.resolveCells_eq {cells : List Bool} {header : Nat} {k : Packet}
    (hreads : ReadsPacket cells header k) : resolveCells cells header = packetReport k := by
  have hframe0 := resolveDigitFrame_of_reads (k := 0) hreads.a hreads.d
  have hframe1 := resolveDigitFrame_of_reads (k := 1) hreads.b hreads.e
  have hframe2 := resolveDigitFrame_of_reads (k := 2) hreads.c hreads.f
  have hframe3 := resolveSentinelFrame_of_reads hreads.g hreads.h
  unfold packetReport
  split_ifs with ha hd hb he hc hf hg hh <;>
    simp [resolveCells, resolveChecks, expectedAddress, readingReport, errorReport, weight, stopFlagOf, *]

/-- Settles O36: a buffer of the right length holds a packet, and RESOLVE answers that packet's record. -/
theorem resolveRunsTheChecksInOrder : Obligations.ResolveRunsTheChecksInOrder := by
  intro v cells hlen
  obtain ⟨k, hreads⟩ := exists_readsPacket hlen
  exact ⟨k.a, k.b, k.c, k.g, k.d, k.e, k.f, k.h, hreads.a, hreads.d, hreads.b, hreads.e, hreads.c, hreads.f, hreads.g,
    hreads.h, hreads.resolveCells_eq⟩

/-! ### The packets of three digits -/

/-- The pattern is bits 7 to 1. -/
theorem getLsbD_patternOf (d : BitVec 9) {i : Nat} (hi : i < 7) : (patternOf d).getLsbD i = d.getLsbD (1 + i) := by
  have hmask : (0x7F#9).getLsbD i = true := by
    interval_cases i <;> rfl
  simp only [patternOf, BitVec.getLsbD_setWidth, BitVec.getLsbD_and, BitVec.getLsbD_ushiftRight, hmask, hi, decide_true,
    Bool.true_and, Bool.and_true]

/-- Above its stop flag a data value carries the segment pattern. -/
theorem getLsbD_dataValue (t : Bool) (p : BitVec 7) (stop : Bool) {i : Nat} (hi : i < 7) :
    (dataValue t p stop).getLsbD (1 + i) = p.getLsbD i := by
  rw [dataValue, BitVec.getLsbD_append, if_neg (by omega), BitVec.getLsbD_append, Nat.add_sub_cancel_left, if_pos hi]

theorem patternOf_dataValue (t : Bool) (p : BitVec 7) (stop : Bool) : patternOf (dataValue t p stop) = p :=
  BitVec.eq_of_getLsbD_eq fun _ hi => (getLsbD_patternOf _ hi).trans (getLsbD_dataValue t p stop hi)

/-- The stop flag of a data value is its lowest bit. -/
theorem getLsbD_zero_dataValue (t : Bool) (p : BitVec 7) (stop : Bool) : (dataValue t p stop).getLsbD 0 = stop := by
  rw [dataValue, BitVec.getLsbD_append]
  cases stop <;> rfl

/-- The digit table inverts the patterns of the ten numerals. -/
theorem digitOfPattern_patternOfDigit :
    ∀ n : Fin 10, digitOfPattern (patternOfDigit n) = some (BitVec.ofNat 4 n.val) := by
  decide

/-- A data value with the pattern of a numeral is read as that numeral, whatever its two free bits. -/
theorem digitOf_dataValue (t : Bool) (n : Fin 10) (stop : Bool) :
    digitOf (dataValue t (patternOfDigit n) stop) = (true, BitVec.ofNat 4 n.val) := by
  rw [digitOf, patternOf_dataValue, digitOfPattern_patternOfDigit]

theorem packetReport_dig (d1 d2 d3 : Fin 10) (stop : Bool) :
    packetReport (dig d1 d2 d3 stop) = readingReport d1.val d2.val d3.val stop := by
  have hnum (n : Fin 10) : n.val % 16 = n.val := Nat.mod_eq_of_lt (n.isLt.trans (by decide))
  rw [packetReport, dig, getLsbD_zero_dataValue]
  simp [digitOf_dataValue, readingReport, weight, hnum]

/-- Three digits are at most 9990, which fourteen bits hold. -/
theorem readingReport_rpm_toNat (d1 d2 d3 : Fin 10) (stop : Bool) :
    (readingReport d1.val d2.val d3.val stop).rpm.toNat = d1.val * 1000 + d2.val * 100 + d3.val * 10 :=
  Nat.mod_eq_of_lt (by simp only [weight]; omega)

/-- Three digits in the packet cells, behind any header, are read. -/
theorem resolveCells_dig {v : Variant} {hdr : List Bool} (hlen : hdr.length = headerBits v) (d1 d2 d3 : Fin 10)
    (stop : Bool) :
    resolveCells (hdr ++ packetCells (dig d1 d2 d3 stop)) (headerBits v) =
      readingReport d1.val d2.val d3.val stop := by
  rw [← hlen, (readsPacket_append hdr _).resolveCells_eq, packetReport_dig]

/-! ### Errors -/

/-- The address and the digit check of a digit frame pass. -/
def DigitFramePasses (cells : List Bool) (header : Nat) (k : Fin 3) : Prop :=
  readAddrAt cells header (17 * k.val) = some (0xA0#8 + BitVec.ofNat 8 k.val) ∧
    ∃ d, readDataAt cells header (17 * k.val + 8) = some d ∧ (digitOf d).1 = true

theorem digitFramePasses_iff {cells : List Bool} {header : Nat} {k : Fin 3} :
    DigitFramePasses cells header k ↔ ∃ x, resolveDigitFrame cells header k = .ok x := by
  constructor
  · rintro ⟨ha, d, hd, hvalid⟩
    refine ⟨(d, (digitOf d).2.toNat), ?_⟩
    rw [resolveDigitFrame_of_reads (a := expectedAddress k.castSucc) ha hd, if_neg (not_not.2 rfl),
      if_neg (by simp [hvalid])]
  · rintro ⟨⟨d, n⟩, h⟩
    obtain ⟨ha, hd, hvalid, -⟩ := resolveDigitFrame_ok h
    exact ⟨ha, d, hd, hvalid⟩

/-- Some check of RESOLVE fails: an address, a digit pattern or the sentinel. -/
def FailedCheck (cells : List Bool) (header : Nat) : Prop :=
  (∃ k : Fin 4, readAddrAt cells header (17 * k.val) ≠ some (0xA0#8 + BitVec.ofNat 8 k.val)) ∨
    (∃ (k : Fin 3) (d : BitVec 9), readDataAt cells header (17 * k.val + 8) = some d ∧ (digitOf d).1 = false) ∨
    readDataAt cells header 59 ≠ some 0x020#9

/-- A record without error means that every frame passed. -/
theorem resolveCells_err_eq_false {cells : List Bool} {header : Nat} (h : (resolveCells cells header).err = false) :
    (∀ k : Fin 3, DigitFramePasses cells header k) ∧ resolveSentinelFrame cells header = .ok () := by
  simp only [digitFramePasses_iff, Fin.forall_fin_succ]
  unfold resolveCells resolveChecks at h
  cases h0 : resolveDigitFrame cells header 0 with
  | error e => simp [h0, errorReport] at h
  | ok x0 =>
  cases h1 : resolveDigitFrame cells header 1 with
  | error e => simp [h0, h1, errorReport] at h
  | ok x1 =>
  cases h2 : resolveDigitFrame cells header 2 with
  | error e => simp [h0, h1, h2, errorReport] at h
  | ok x2 =>
  cases h3 : resolveSentinelFrame cells header with
  | error e => simp [h0, h1, h2, h3, errorReport] at h
  | ok u => simp [h1, h2]

/-- Any failed check makes the record an error, whatever the other fields hold. -/
theorem FailedCheck.err_eq_true {cells : List Bool} {header : Nat} (hfail : FailedCheck cells header) :
    (resolveCells cells header).err = true := by
  by_contra hnot
  obtain ⟨hdigits, hsentinel⟩ := resolveCells_err_eq_false (Bool.eq_false_iff.2 hnot)
  rcases resolveSentinelFrame_eq cells header with ⟨haddr3, hdata3, -⟩ | ⟨-, herr⟩ | ⟨-, -, herr⟩
  case inr.inl | inr.inr => simp [hsentinel] at herr
  rcases hfail with ⟨k, hk⟩ | ⟨k, d, hd, hinvalid⟩ | hk
  · cases k using Fin.lastCases with
    | last => exact hk haddr3
    | cast j => exact hk (hdigits j).1
  · obtain ⟨-, d', hd', hvalid⟩ := hdigits k
    obtain rfl : d = d' := Option.some.inj (hd.symm.trans hd')
    simp [hinvalid] at hvalid
  · exact hk hdata3

/-- The first digit frame that fails decides the record. -/
theorem resolveCells_of_digitFrame_error {cells : List Bool} {header : Nat} {k : Fin 3} {c : Cause} {f : Fin 4}
    (hbelow : ∀ j : Fin 3, j.val < k.val → DigitFramePasses cells header j)
    (herr : resolveDigitFrame cells header k = .error (c, f)) : resolveCells cells header = errorReport c f := by
  simp only [digitFramePasses_iff] at hbelow
  unfold resolveCells resolveChecks
  match k with
  | 0 => simp [herr]
  | 1 =>
    obtain ⟨x0, h0⟩ := hbelow 0 (by decide)
    simp [h0, herr]
  | 2 =>
    obtain ⟨x0, h0⟩ := hbelow 0 (by decide)
    obtain ⟨x1, h1⟩ := hbelow 1 (by decide)
    simp [h0, h1, herr]

/-- When the three digit frames pass, the sentinel frame decides the record. -/
theorem resolveCells_of_sentinelFrame_error {cells : List Bool} {header : Nat} {c : Cause} {f : Fin 4}
    (hdigits : ∀ j : Fin 3, DigitFramePasses cells header j)
    (herr : resolveSentinelFrame cells header = .error (c, f)) : resolveCells cells header = errorReport c f := by
  simp only [digitFramePasses_iff] at hdigits
  obtain ⟨x0, h0⟩ := hdigits 0
  obtain ⟨x1, h1⟩ := hdigits 1
  obtain ⟨x2, h2⟩ := hdigits 2
  simp [resolveCells, resolveChecks, h0, h1, h2, herr]

theorem resolveCells_of_addressMismatch {cells : List Bool} {header : Nat} {k : Fin 4}
    (hbelow : ∀ j : Fin 3, j.val < k.val → DigitFramePasses cells header j)
    (haddr : readAddrAt cells header (17 * k.val) ≠ some (0xA0#8 + BitVec.ofNat 8 k.val)) :
    resolveCells cells header = errorReport .addressMismatch k := by
  cases k using Fin.lastCases with
  | last =>
    refine resolveCells_of_sentinelFrame_error (fun j => hbelow j j.isLt) ?_
    rcases resolveSentinelFrame_eq cells header with ⟨ha, -⟩ | ⟨-, h⟩ | ⟨ha, -⟩
    · exact absurd ha haddr
    · exact h
    · exact absurd ha haddr
  | cast j =>
    refine resolveCells_of_digitFrame_error hbelow ?_
    rcases checkAddress_eq cells header j.castSucc with ⟨ha, -⟩ | ⟨-, h⟩
    · exact absurd ha haddr
    · rw [resolveDigitFrame, h]

theorem resolveCells_of_invalidDigit {cells : List Bool} {header : Nat} {k : Fin 3} {d : BitVec 9}
    (hbelow : ∀ j : Fin 3, j.val < k.val → DigitFramePasses cells header j)
    (haddr : readAddrAt cells header (17 * k.val) = some (0xA0#8 + BitVec.ofNat 8 k.val))
    (hdata : readDataAt cells header (17 * k.val + 8) = some d) (hinvalid : (digitOf d).1 = false) :
    resolveCells cells header = errorReport .invalidDigit k.castSucc := by
  refine resolveCells_of_digitFrame_error hbelow ?_
  rw [resolveDigitFrame_of_reads (a := expectedAddress k.castSucc) haddr hdata, if_neg (not_not.2 rfl), if_pos hinvalid]

theorem resolveCells_of_sentinelMismatch {cells : List Bool} {header : Nat}
    (hdigits : ∀ j : Fin 3, DigitFramePasses cells header j) (haddr : readAddrAt cells header 51 = some 0xA3#8)
    (hdata : readDataAt cells header 59 ≠ some 0x020#9) :
    resolveCells cells header = errorReport .sentinelMismatch 3 := by
  refine resolveCells_of_sentinelFrame_error hdigits ?_
  rcases resolveSentinelFrame_eq cells header with ⟨-, hd, -⟩ | ⟨ha, -⟩ | ⟨-, -, h⟩
  · exact absurd hd hdata
  · exact absurd haddr ha
  · exact h

/-- The address of frame 0 in an all-zero buffer is 0. -/
theorem readAddrAt_zeros_ne (v : Variant) :
    readAddrAt (List.replicate (expectedBits v) false) (headerBits v) 0 ≠ some 0xA0#8 := by
  cases v <;> decide

/-- Settles O42: the exact records are those of the first failure, and any failure is an error. -/
theorem anyFailedCheckIsADecodeError : Obligations.AnyFailedCheckIsADecodeError := by
  refine ⟨fun v cells _ => ⟨fun k haddr => ?_, fun k d hdata hinvalid => ?_, fun hdata => ?_⟩, fun v => ?_⟩
  · exact ⟨FailedCheck.err_eq_true (.inl ⟨k, haddr⟩), fun hbelow => resolveCells_of_addressMismatch hbelow haddr⟩
  · exact ⟨FailedCheck.err_eq_true (.inr (.inl ⟨k, d, hdata, hinvalid⟩)),
      fun hbelow haddr => resolveCells_of_invalidDigit hbelow haddr hdata hinvalid⟩
  · exact ⟨FailedCheck.err_eq_true (.inr (.inr hdata)),
      fun hdigits haddr => resolveCells_of_sentinelMismatch hdigits haddr hdata⟩
  · exact resolveCells_of_addressMismatch (k := 0) (fun j hj => absurd hj (Nat.not_lt_zero _)) (readAddrAt_zeros_ne v)

/-- Settles O40: three digits are read behind any header, and a failed check leaves an error, which no reading is. -/
theorem resolveReadsThreeDigits : Obligations.ResolveReadsThreeDigits := by
  refine ⟨fun v hdr d1 d2 d3 stop hlen => ?_, fun v cells _ hfail => ?_⟩
  · exact ⟨_, resolveCells_dig hlen d1 d2 d3 stop, rfl, readingReport_rpm_toNat d1 d2 d3 stop, rfl, rfl, rfl⟩
  · have herr : (resolveCells cells (headerBits v)).err = true := FailedCheck.err_eq_true hfail
    refine ⟨herr, fun n0 n1 n2 stop heq => ?_⟩
    rw [heq] at herr
    cases herr

/-- Settles O41: the three zeros are read as any three digits are, and no error is a reading. -/
theorem zeroReadingIsValidAndShownStopped : Obligations.ZeroReadingIsValidAndShownStopped := by
  intro v hdr stop hlen
  refine ⟨_, resolveCells_dig hlen 0 0 0 stop, rfl, rfl, rfl, rfl, fun c k heq => ?_⟩
  cases congrArg Report.err heq

end Sys2Proof.Machine
end

section
/-! What happens on an error (spec/60_exceptions.md R215): the ticks that close a timed-out window and that end a cycle,
and the decode errors that RESOLVE can return. -/

namespace Sys2Proof.Machine

/-! ### The ticks of an error -/

/-- R129: with room left in the buffer and no budget, a tick closes the window. -/
theorem step_tick_of_budgetGone {s : State} {es : List Event} (hr : s.resetAsserted = false)
    (hc : s.capState = .capturing) (hlt : s.cursor.toNat < s.expected) (hb : s.budgetCnt = 0)
    (hes : s.events = .tick :: es) : step s = .next ((s.setEvents es).closeWindow .timedOut) := by
  have hfull : s.captureFull = false := (captureFull_eq_false_iff s).2 hlt.ne
  have hgone : s.budgetGone = true := (budgetGone_iff s).2 hb
  rw [step_tick hes hr]
  simp [tickNext, hc, hfull, hgone]

/-- R132: after a timeout a tick ends the cycle with the timeout's record. -/
theorem step_tick_of_timedOut {s : State} {es : List Event} (hr : s.resetAsserted = false)
    (hc : s.capState = .timedOut) (hes : s.events = .tick :: es) :
    step s = .next ((s.setEvents es).endCycle (errorReport .captureTimeout 0)) := by
  rw [step_tick hes hr]
  simp [tickNext, hc]

/-- R131: after a complete capture a tick ends the cycle with the record of RESOLVE. -/
theorem step_tick_of_complete {s : State} {es : List Event} (hr : s.resetAsserted = false)
    (hc : s.capState = .complete) (hes : s.events = .tick :: es) :
    step s = .next ((s.setEvents es).endCycle (resolveCells s.cells s.header)) := by
  have hcells : (s.setEvents es).cells = s.cells := rfl
  rw [step_tick hes hr]
  simp [tickNext, hc, hcells]

/-! ### The errors of RESOLVE -/

/-- The sentinel frame fails with one of two causes, in frame 3. -/
theorem resolveSentinelFrame_error {cells : List Bool} {header : Nat} {c : Cause} {k : Fin 4}
    (h : resolveSentinelFrame cells header = .error (c, k)) :
    k = 3 ∧ (c = .addressMismatch ∨ c = .sentinelMismatch) := by
  rcases resolveSentinelFrame_eq cells header with ⟨-, -, hs⟩ | ⟨-, hs⟩ | ⟨-, -, hs⟩
  all_goals rw [hs] at h; cases h
  · exact ⟨rfl, .inl rfl⟩
  · exact ⟨rfl, .inr rfl⟩

/-- A failure of RESOLVE is the failure of one of its four frames. -/
theorem resolveChecks_error {cells : List Bool} {header : Nat} {e : DecodeFailure}
    (h : resolveChecks cells header = .error e) :
    (∃ k : Fin 3, resolveDigitFrame cells header k = .error e) ∨ resolveSentinelFrame cells header = .error e := by
  unfold resolveChecks at h
  split at h
  · next h0 => cases h; exact .inl ⟨0, h0⟩
  split at h
  · next h1 => cases h; exact .inl ⟨1, h1⟩
  split at h
  · next h2 => cases h; exact .inl ⟨2, h2⟩
  split at h
  · next h3 => cases h; exact .inr h3
  · cases h

/-- The causes RESOLVE raises (R200): never a timeout, never none. -/
theorem resolveChecks_error_cause {cells : List Bool} {header : Nat} {c : Cause} {k : Fin 4}
    (h : resolveChecks cells header = .error (c, k)) :
    c = .addressMismatch ∨ c = .invalidDigit ∨ c = .sentinelMismatch := by
  rcases resolveChecks_error h with ⟨j, hdigit⟩ | hsentinel
  · exact (resolveDigitFrame_error hdigit).2.imp_right .inl
  · exact (resolveSentinelFrame_error hsentinel).2.imp_right .inr

/-- RESOLVE returns the record of the error it raised. -/
theorem resolveCells_of_checks_error {cells : List Bool} {header : Nat} {c : Cause} {k : Fin 4}
    (h : resolveChecks cells header = .error (c, k)) : resolveCells cells header = errorReport c k := by
  rw [resolveCells, h]

/-- Settles O46: a timeout takes the closing tick and the reporting one, a decode error only the reporting one. -/
theorem errorEntryReportsClearsAndIdles : Obligations.ErrorEntryReportsClearsAndIdles := by
  refine ⟨fun s es hr hc hlt hb hes => ?_, fun s es c k hr hc herr hes => ⟨resolveChecks_error_cause herr, ?_⟩⟩
  · have hclose := step_tick_of_budgetGone hr hc hlt hb hes
    have hreport : step ((s.setEvents (.tick :: es)).closeWindow .timedOut) = _ := step_tick_of_timedOut hr rfl rfl
    exact ⟨hclose, by rw [steps_succ_of_step 1 hclose, steps_succ_of_step 0 hreport]; rfl⟩
  · rw [step_tick_of_complete hr hc hes, resolveCells_of_checks_error herr]
    rfl

end Sys2Proof.Machine
end

section
/-! What every step keeps, and what a step out of the capture window does (spec/70_reset_and_hazards.md): the straps of
R246 with the sizes they fix, and the gate of R251. -/

namespace Sys2Proof.Machine

/-! ### The straps -/

@[simp] theorem tickNext_straps (s : State) : (tickNext s).straps = s.straps := by
  cases hc : s.capState with
  | idle => simp [tickNext, hc]
  | busWait => cases hf : s.frameActive <;> simp [tickNext, hc, hf]
  | settle => cases hz : s.settleDone <;> simp [tickNext, hc, hz]
  | capturing => cases hk : s.captureFull <;> cases hb : s.budgetGone <;> simp [tickNext, hc, hk, hb]
  | complete => simp [tickNext, hc]
  | timedOut => simp [tickNext, hc]
  | reserved110 => simp [tickNext, hc]
  | reserved111 => simp [tickNext, hc]

@[simp] theorem edgeNext_straps (s : State) : (edgeNext s).straps = s.straps := by
  unfold edgeNext
  split <;> rfl

theorem OnlyAnswers.straps_eq {s t : State} (h : OnlyAnswers s t) : t.straps = s.straps := by rw [h]

/-- R246: the straps are inputs that neither agent, no change of a line and not even `reset` writes. -/
theorem step_straps {s t : State} (h : step s = .next t) : t.straps = s.straps := by
  rcases step_cases h with ⟨_, ⟨_, rfl⟩ | ⟨_, rfl⟩⟩ | ⟨l, _, ⟨_, rfl⟩ | ⟨_, rfl⟩⟩ | ⟨l, _, rfl⟩ | ⟨l, _, rfl⟩ |
    ⟨_, rfl⟩ | ⟨_, rfl⟩ | ⟨c, w, _, ha⟩
  · simp
  · simp
  · simp
  · simp
  · simp
  · simp
  · simp
  · simp
  · simpa using ha.straps_eq

/-- The straps fix where the packet begins. -/
theorem header_eq_of_straps_eq {s t : State} (h : t.straps = s.straps) : t.header = s.header := by
  rw [State.header, h, State.header]

/-- The straps fix how many bits a window takes. -/
theorem expected_eq_of_straps_eq {s t : State} (h : t.straps = s.straps) : t.expected = s.expected := by
  rw [expected_eq, expected_eq, header_eq_of_straps_eq h]

/-- R5: the two variants give the two header widths. -/
theorem exists_headerBits_eq_iff (n : Nat) : (∃ v, headerBits v = n) ↔ n = 0 ∨ n = 36 := by
  constructor
  · rintro ⟨v, rfl⟩
    cases v with
    | legacy => exact .inl rfl
    | modern => exact .inr rfl
  · rintro (rfl | rfl)
    · exact ⟨.legacy, rfl⟩
    · exact ⟨.modern, rfl⟩

/-- Settles O50: `HEADER_BITS` and `EXPECTED_BITS` are functions of the straps, which every step keeps. -/
theorem noStepChangesTheStraps : Obligations.NoStepChangesTheStraps := by
  refine ⟨fun s t h => ?_, rfl, rfl, rfl, rfl, exists_headerBits_eq_iff, fun s => ⟨rfl, expected_eq s, cells_length s⟩⟩
  have hstraps := step_straps h
  exact ⟨hstraps, header_eq_of_straps_eq hstraps, expected_eq_of_straps_eq hstraps⟩

/-! ### Leaving the capture window -/

/-- In the window a tick either polls or closes the gate: R128 and R129 close it, R127 stays. -/
theorem tickNext_of_capturing {s : State} (hc : s.capState = .capturing) :
    (tickNext s).capState = .capturing ∨ (tickNext s).samplerEn = false := by
  cases hk : s.captureFull with
  | true => simp [tickNext, hc, hk]
  | false => cases hb : s.budgetGone <;> simp [tickNext, hc, hk, hb]

/-- The two writers of `cap_state`: a tick and the assertion of `reset`. -/
theorem step_of_capState_ne {s t : State} (h : step s = .next t) (hne : t.capState ≠ s.capState) :
    t = tickNext s.afterEvent ∨ t = s.afterEvent.enterReset := by
  have hwriter (htick : s.nextEvent ≠ .tick) (hreset : ∀ b, s.nextEvent ≠ .reset b) : False :=
    hne (step_capState_of_not_tick_of_not_reset htick hreset h)
  rcases step_cases h with ⟨_, ⟨_, ht⟩ | ⟨_, ht⟩⟩ | ⟨l, he, _⟩ | ⟨l, he, _⟩ | ⟨l, he, _⟩ | ⟨_, ht⟩ | ⟨_, ht⟩ |
    ⟨c, w, he, _⟩
  · exact .inl ht
  · exact absurd (by simp [ht]) hne
  · exact (hwriter (by simp [he]) (by simp [he])).elim
  · exact (hwriter (by simp [he]) (by simp [he])).elim
  · exact (hwriter (by simp [he]) (by simp [he])).elim
  · exact .inr ht
  · exact absurd (by simp [ht]) hne
  · exact (hwriter (by simp [he]) (by simp [he])).elim

/-- Settles O52: the tick is CAPTURE_DONE or CAPTURE_TIMEOUT, since a POLL stays in the window, and `reset` closes the gate
too. -/
theorem leavingCapturingClosesTheGate : Obligations.LeavingCapturingClosesTheGate := by
  intro s t h hc hleft
  rcases step_of_capState_ne h (by rwa [hc]) with rfl | rfl
  · exact (tickNext_of_capturing (by simpa using hc)).resolve_left hleft
  · exact enterReset_samplerEn s.afterEvent

end Sys2Proof.Machine
end

section
/-! The encoding (spec/30_encoding.md): each part of an operation's word read back and written again - dispatch words,
data values, packets, digit patterns - and from them that decoder and encoder invert each other. -/

namespace Sys2Proof.Machine

/-! ### Dispatch words -/

/-- The sequencer's dispatch word of a state code and its four condition bits (R100). -/
def dispatchWord (c : CapState) (f z k b : Bool) : BitVec 7 :=
  stateCode c ++ BitVec.ofBool f ++ BitVec.ofBool z ++ BitVec.ofBool k ++ BitVec.ofBool b

/-- The sampler's dispatch word of its three bits (R101). -/
def edgeWord (e l d : Bool) : BitVec 3 := BitVec.ofBool e ++ BitVec.ofBool l ++ BitVec.ofBool d

/-- The operation a sequencer word selects. -/
def dispatched (c : CapState) (f z k b : Bool) : Instr :=
  match c with
  | .idle => .cycleStart f z k b
  | .busWait => if f then .busWait z k b else .busIdle z k b
  | .settle => if z then .arm f k b else .settleWait f k b
  | .capturing => if k then .captureDone f z b else if b then .captureTimeout f z else .poll f z
  | .complete => .decodeReport f z k b
  | .timedOut => .timeoutReport f z k b
  | .reserved110 => .stateFault false f z k b
  | .reserved111 => .stateFault true f z k b

/-- The operation a sampler word selects. -/
def edgeDispatched (e l d : Bool) : Instr :=
  if e then (if l then .sample d else .edgeDropFull d) else .edgeDropOff l d

theorem decode_dispatchWord (c : CapState) (f z k b : Bool) :
    decode .sequencer (dispatchWord c f z k b).toNat = .ok (dispatched c f z k b) :=
  (decode_sequencer (dispatchWord c f z k b).isLt).trans (congrArg Except.ok (decodeSequencer_bits c f z k b))

theorem decode_edgeWord (e l d : Bool) : decode .sampler (edgeWord e l d).toNat = .ok (edgeDispatched e l d) :=
  (decode_sampler (edgeWord e l d).isLt).trans (congrArg Except.ok (decodeSampler_bits e l d))

/-- The encoder's sum of fixed bits and letters is the dispatch word. -/
theorem sequencerBits_eq (c : CapState) (f z k b : Bool) :
    sequencerBits (16 * (stateCode c).toNat) f z k b = (dispatchWord c f z k b).toNat := by
  cases c <;> cases f <;> cases z <;> cases k <;> cases b <;> rfl

/-- Every seven-bit word is the dispatch word of its state code and its four low bits. -/
theorem dispatchWord_of_lt : ∀ w < 128,
    (dispatchWord (stateOfCode (w / 16)) (w.testBit 3) (w.testBit 2) (w.testBit 1) (w.testBit 0)).toNat = w := by
  decide

/-- Every three-bit word is the sampler word of its bits. -/
theorem edgeWord_of_lt : ∀ w < 8, (edgeWord (w.testBit 2) (w.testBit 1) (w.testBit 0)).toNat = w := by decide

/-- The word written for a dispatched operation is the one that dispatches it. -/
theorem encode_dispatched (c : CapState) (f z k b : Bool) :
    encode (dispatched c f z k b) = ⟨.sequencer, (dispatchWord c f z k b).toNat⟩ := by
  rw [← sequencerBits_eq]
  cases c with
  | busWait => cases f <;> rfl
  | settle => cases z <;> rfl
  | capturing => cases k <;> cases b <;> rfl
  | idle | complete | timedOut | reserved110 | reserved111 => rfl

theorem encode_edgeDispatched (e l d : Bool) :
    encode (edgeDispatched e l d) = ⟨.sampler, (edgeWord e l d).toNat⟩ := by
  cases e <;> cases l <;> cases d <;> rfl

theorem dispatched_wellFormed (c : CapState) (f z k b : Bool) : (dispatched c f z k b).wellFormed = true := by
  cases c with
  | busWait => cases f <;> rfl
  | settle => cases z <;> rfl
  | capturing => cases k <;> cases b <;> rfl
  | idle | complete | timedOut | reserved110 | reserved111 => rfl

theorem edgeDispatched_wellFormed (e l d : Bool) : (edgeDispatched e l d).wellFormed = true := by
  cases e <;> cases l <;> rfl

/-- A dispatched operation is read back from the word written for it. -/
theorem decode_encode_dispatched (c : CapState) (f z k b : Bool) :
    decode (encode (dispatched c f z k b)).channel (encode (dispatched c f z k b)).bits =
      .ok (dispatched c f z k b) := by
  rw [encode_dispatched]
  exact decode_dispatchWord c f z k b

theorem decode_encode_edgeDispatched (e l d : Bool) :
    decode (encode (edgeDispatched e l d)).channel (encode (edgeDispatched e l d)).bits =
      .ok (edgeDispatched e l d) := by
  rw [encode_edgeDispatched]
  exact decode_edgeWord e l d

/-! ### Data values -/

/-- The 9-bit data value as the encoder writes it (R82). -/
theorem dataValue_toNat (t : Bool) (p : BitVec 7) (stop : Bool) :
    (dataValue t p stop).toNat = dataBits t p.toNat stop := by
  have hstop : stop.toNat < 2 ^ 1 := stop.toNat_lt
  rw [dataValue, BitVec.toNat_append, BitVec.toNat_append, BitVec.toNat_ofBool, BitVec.toNat_ofBool,
    ← Nat.shiftLeft_add_eq_or_of_lt hstop, ← Nat.shiftLeft_add_eq_or_of_lt p.isLt, Nat.shiftLeft_eq, Nat.shiftLeft_eq,
    dataBits]
  omega

theorem getLsbD_eight_dataValue (t : Bool) (p : BitVec 7) (stop : Bool) : (dataValue t p stop).getLsbD 8 = t := by
  rw [dataValue, BitVec.getLsbD_append, if_neg (by decide), BitVec.getLsbD_append, if_neg (by decide)]
  cases t <;> rfl

/-- Its three parts make up a data value. -/
theorem dataValue_of_fields (d : BitVec 9) : dataValue (fieldT d) (patternOf d) (fieldS d) = d := by
  refine BitVec.eq_of_getLsbD_eq fun i hi => ?_
  obtain rfl | ⟨j, hj, rfl⟩ | rfl : i = 0 ∨ (∃ j < 7, i = 1 + j) ∨ i = 8 := by
    rcases i with _ | j
    · exact .inl rfl
    · rcases Nat.lt_or_ge j 7 with hj | hj
      · exact .inr (.inl ⟨j, hj, Nat.add_comm _ _⟩)
      · exact .inr (.inr (by omega))
  · exact getLsbD_zero_dataValue _ _ _
  · rw [getLsbD_dataValue _ _ _ hj, getLsbD_patternOf _ hj]
  · exact getLsbD_eight_dataValue _ _ _

theorem ofNat_dataBits (t : Bool) (p : BitVec 7) (stop : Bool) :
    BitVec.ofNat 9 (dataBits t p.toNat stop) = dataValue t p stop := by
  rw [← dataValue_toNat, BitVec.ofNat_toNat, BitVec.setWidth_eq]

theorem fieldT_dataValue (t : Bool) (p : BitVec 7) (stop : Bool) : fieldT (dataValue t p stop) = t :=
  getLsbD_eight_dataValue t p stop

theorem fieldS_dataValue (t : Bool) (p : BitVec 7) (stop : Bool) : fieldS (dataValue t p stop) = stop :=
  getLsbD_zero_dataValue t p stop

/-! ### Digit patterns -/

/-- The digit table lists the ten numerals' patterns, in the order of the numerals (R88). -/
theorem digitTable_eq : digitTable = (List.finRange 10).map fun n => (patternOfDigit n, BitVec.ofNat 4 n.val) := by
  decide

/-- What the table finds is the pattern of a numeral. -/
theorem eq_patternOfDigit_of_digitOfPattern {p : BitVec 7} {m : BitVec 4} (h : digitOfPattern p = some m) :
    ∃ n : Fin 10, p = patternOfDigit n ∧ m = BitVec.ofNat 4 n.val := by
  obtain ⟨l₁, l₂, htable, -⟩ := List.lookup_eq_some_iff.1 h
  have hmem : (p, m) ∈ digitTable := htable ▸ List.mem_append_right l₁ List.mem_cons_self
  rw [digitTable_eq] at hmem
  obtain ⟨n, -, hn⟩ := List.mem_map.1 hmem
  cases hn
  exact ⟨n, rfl, rfl⟩

/-- The patterns in the table are those of the ten numerals. -/
theorem digitOfPattern_isSome_iff {p : BitVec 7} : (digitOfPattern p).isSome = true ↔ ∃ n, p = patternOfDigit n := by
  rw [Option.isSome_iff_exists]
  constructor
  · rintro ⟨m, h⟩
    obtain ⟨n, hp, -⟩ := eq_patternOfDigit_of_digitOfPattern h
    exact ⟨n, hp⟩
  · rintro ⟨n, rfl⟩
    exact ⟨_, digitOfPattern_patternOfDigit n⟩

/-- A pattern of no numeral is not in the table. -/
theorem digitOfPattern_eq_none {p : BitVec 7} (h : ∀ n, p ≠ patternOfDigit n) : digitOfPattern p = none := by
  rw [← Option.not_isSome_iff_eq_none, digitOfPattern_isSome_iff]
  exact fun ⟨n, hn⟩ => h n hn

/-- The digit-frame pattern of a numeral with its two free bits. -/
def digitInstr (n : Fin 10) (t stop : Bool) : Instr :=
  match n with
  | 0 => .digit0 t stop
  | 1 => .digit1 t stop
  | 2 => .digit2 t stop
  | 3 => .digit3 t stop
  | 4 => .digit4 t stop
  | 5 => .digit5 t stop
  | 6 => .digit6 t stop
  | 7 => .digit7 t stop
  | 8 => .digit8 t stop
  | 9 => .digit9 t stop

/-- A data word with the pattern of a numeral is that numeral's field pattern. -/
theorem decodeDigitField_of_pattern {d : BitVec 9} {n : Fin 10} (h : patternOf d = patternOfDigit n) :
    decodeDigitField d = some (digitInstr n (fieldT d) (fieldS d)) := by
  rw [decodeDigitField, h, digitOfPattern_patternOfDigit]
  fin_cases n <;> rfl

/-- A data word with any other pattern is no field pattern. -/
theorem decodeDigitField_eq_none {d : BitVec 9} (h : ∀ n, patternOf d ≠ patternOfDigit n) :
    decodeDigitField d = none := by
  rw [decodeDigitField, digitOfPattern_eq_none h]

theorem encode_digitInstr (n : Fin 10) (t stop : Bool) :
    encode (digitInstr n t stop) = ⟨.fn (.digitField 0), (dataValue t (patternOfDigit n) stop).toNat⟩ := by
  rw [dataValue_toNat]
  fin_cases n <;> rfl

theorem digitInstr_wellFormed (n : Fin 10) (t stop : Bool) : (digitInstr n t stop).wellFormed = true := by
  fin_cases n <;> rfl

/-! ### Packets -/

/-- Taking the frame bits of a packet apart gives its fields. -/
theorem splitPacket_joinPacket (k : Packet) : splitPacket (joinPacket k) = k := by
  have ha := k.a.isLt
  have hd := k.d.isLt
  have hb := k.b.isLt
  have he := k.e.isLt
  have hc := k.c.isLt
  have hf := k.f.isLt
  have hg := k.g.isLt
  have hh := k.h.isLt
  rw [splitPacket, joinPacket, Packet.mk.injEq]
  refine ⟨?_, ?_, ?_, ?_, ?_, ?_, ?_, ?_⟩ <;> (apply BitVec.eq_of_toNat_eq; rw [BitVec.toNat_ofNat]; omega)

/-- The fields of 68 frame bits make up the frame bits. -/
theorem joinPacket_splitPacket {w : Nat} (h : w < 2 ^ 68) : joinPacket (splitPacket w) = w := by
  simp only [joinPacket, splitPacket, BitVec.toNat_ofNat]
  omega

/-- The accepted-packet pattern is read back from the packet of the table's row (R190). -/
theorem decodeAccepted_acceptedPacket {u x v y w stop : Bool} {p q r : BitVec 7}
    (hwf : (Instr.packetAccepted u p x v q y w r stop).wellFormed = true) :
    decodeAccepted (acceptedPacket u p x v q y w r stop) = some (.packetAccepted u p x v q y w r stop) := by
  simp only [Instr.wellFormed, Bool.and_eq_true] at hwf
  obtain ⟨⟨hp, hq⟩, hr⟩ := hwf
  simp only [decodeAccepted, acceptedPacket, patternOf_dataValue, fieldT_dataValue, fieldS_dataValue]
  exact if_pos ⟨rfl, rfl, rfl, rfl, rfl, hp, hq, hr⟩

/-- A packet read as accepted is the packet of the table's row, its patterns in the table. -/
theorem encode_of_decodeAccepted {k : Packet} {i : Instr} (h : decodeAccepted k = some i) :
    i.wellFormed = true ∧ encode i = ⟨.fn .packetAccepted, joinPacket k⟩ := by
  unfold decodeAccepted at h
  split_ifs at h with haccepted
  obtain ⟨ha, hb, hc, hg, hh, hd, he, hf⟩ := haccepted
  cases h
  have hk : acceptedPacket (fieldT k.d) (patternOf k.d) (fieldS k.d) (fieldT k.e) (patternOf k.e) (fieldS k.e)
      (fieldT k.f) (patternOf k.f) (fieldS k.f) = k := by
    simp only [acceptedPacket, dataValue_of_fields]
    cases k
    cases ha; cases hb; cases hc; cases hg; cases hh
    rfl
  exact ⟨by simp [Instr.wellFormed, hd, he, hf], by rw [encode, hk]⟩

/-! ### Decoder and encoder -/

theorem decode_fn {c : FnChannel} {w : Nat} (h : w < 2 ^ (Channel.fn c).width) : decode (.fn c) w = decodeFn c w :=
  if_pos h

/-- Only a word no wider than its channel is an operation. -/
theorem lt_of_decode_eq_ok {ch : Channel} {w : Nat} {i : Instr} (h : decode ch w = .ok i) : w < 2 ^ ch.width := by
  unfold decode at h
  split_ifs at h with hlt
  exact hlt

/-- The digit patterns are read back at every digit slot. -/
theorem decode_digitField (k : Fin 3) (n : Fin 10) (t stop : Bool) :
    decode (.fn (.digitField k)) (dataValue t (patternOfDigit n) stop).toNat = .ok (digitInstr n t stop) := by
  rw [decode_fn (dataValue t (patternOfDigit n) stop).isLt, decodeFn, BitVec.ofNat_toNat, BitVec.setWidth_eq,
    decodeDigitField_of_pattern (patternOf_dataValue _ _ _), fieldT_dataValue, fieldS_dataValue]

theorem decode_encode_digitInstr (n : Fin 10) (t stop : Bool) :
    decode (encode (digitInstr n t stop)).channel (encode (digitInstr n t stop)).bits = .ok (digitInstr n t stop) := by
  rw [encode_digitInstr]
  exact decode_digitField 0 n t stop

/-- Decoding inverts encoding, on each channel in its own way. -/
theorem decode_encode {i : Instr} (hwf : i.wellFormed = true) : decode (encode i).channel (encode i).bits = .ok i := by
  cases i with
  | cycleStart f z c b => exact decode_encode_dispatched .idle f z c b
  | busWait z c b => exact decode_encode_dispatched .busWait true z c b
  | busIdle z c b => exact decode_encode_dispatched .busWait false z c b
  | settleWait f c b => exact decode_encode_dispatched .settle f false c b
  | arm f c b => exact decode_encode_dispatched .settle f true c b
  | poll f z => exact decode_encode_dispatched .capturing f z false false
  | captureDone f z b => exact decode_encode_dispatched .capturing f z true b
  | captureTimeout f z => exact decode_encode_dispatched .capturing f z false true
  | decodeReport f z c b => exact decode_encode_dispatched .complete f z c b
  | timeoutReport f z c b => exact decode_encode_dispatched .timedOut f z c b
  | stateFault s0 f z c b =>
    cases s0 with
    | false => exact decode_encode_dispatched .reserved110 f z c b
    | true => exact decode_encode_dispatched .reserved111 f z c b
  | sample d => exact decode_encode_edgeDispatched true true d
  | edgeDropFull d => exact decode_encode_edgeDispatched true false d
  | edgeDropOff l d => exact decode_encode_edgeDispatched false l d
  | readAddr o => exact (decode_fn o.isLt).trans (by rw [decodeFn, encode, BitVec.ofNat_toNat, BitVec.setWidth_eq])
  | readData o => exact (decode_fn o.isLt).trans (by rw [decodeFn, encode, BitVec.ofNat_toNat, BitVec.setWidth_eq])
  | digit t p stop =>
    change decode (.fn .digit) (dataBits t p.toNat stop) = _
    rw [decode_fn (Laws.dataBits_lt p.isLt t stop), decodeFn, ofNat_dataBits, fieldT_dataValue,
      patternOf_dataValue, fieldS_dataValue]
  | stopFlag t p stop =>
    change decode (.fn .stopFlag) (dataBits t p.toNat stop) = _
    rw [decode_fn (Laws.dataBits_lt p.isLt t stop), decodeFn, ofNat_dataBits, fieldT_dataValue,
      patternOf_dataValue, fieldS_dataValue]
  | resolve k => rw [encode, decode_fn (Laws.joinPacket_lt k), decodeFn, splitPacket_joinPacket]
  | packetAccepted u p x v q y w r stop =>
    rw [encode, decode_fn (Laws.joinPacket_lt _), decodeFn, splitPacket_joinPacket, decodeAccepted_acceptedPacket hwf]
  | addrFrame0 | addrFrame1 | addrFrame2 | addrFrame3 | sentinel => rfl
  | digit0 t stop => exact decode_encode_digitInstr 0 t stop
  | digit1 t stop => exact decode_encode_digitInstr 1 t stop
  | digit2 t stop => exact decode_encode_digitInstr 2 t stop
  | digit3 t stop => exact decode_encode_digitInstr 3 t stop
  | digit4 t stop => exact decode_encode_digitInstr 4 t stop
  | digit5 t stop => exact decode_encode_digitInstr 5 t stop
  | digit6 t stop => exact decode_encode_digitInstr 6 t stop
  | digit7 t stop => exact decode_encode_digitInstr 7 t stop
  | digit8 t stop => exact decode_encode_digitInstr 8 t stop
  | digit9 t stop => exact decode_encode_digitInstr 9 t stop

/-- Settles O1: a word that decodes is no wider than its channel. -/
theorem decodeAfterEncodeIsIdentity : Obligations.DecodeAfterEncodeIsIdentity :=
  fun _ hwf => ⟨decode_encode hwf, lt_of_decode_eq_ok (decode_encode hwf)⟩

/-- What an operand word decodes to is encoded as that word; a digit pattern for frame 0. -/
theorem encode_of_decodeFn {c : FnChannel} {w : Nat} {i : Instr} (hlt : w < 2 ^ (Channel.fn c).width)
    (h : decodeFn c w = .ok i) : i.wellFormed = true ∧ (encode i).bits = w ∧
      ((encode i).channel = .fn c ∨ ∃ k, c = .digitField k ∧ (encode i).channel = .fn (.digitField 0)) := by
  have hmod {n : Nat} (hn : w < 2 ^ n) : (BitVec.ofNat n w).toNat = w := by
    rw [BitVec.toNat_ofNat, Nat.mod_eq_of_lt hn]
  cases c with
  | readAddr => cases h; exact ⟨rfl, hmod hlt, .inl rfl⟩
  | readData => cases h; exact ⟨rfl, hmod hlt, .inl rfl⟩
  | digit =>
    cases h
    refine ⟨rfl, ?_, .inl rfl⟩
    rw [encode, ← dataValue_toNat, dataValue_of_fields, hmod (n := 9) hlt]
  | stopFlag =>
    cases h
    refine ⟨rfl, ?_, .inl rfl⟩
    rw [encode, ← dataValue_toNat, dataValue_of_fields, hmod (n := 9) hlt]
  | resolve => cases h; exact ⟨rfl, joinPacket_splitPacket hlt, .inl rfl⟩
  | packetAccepted =>
    simp only [decodeFn] at h
    split at h
    · next j hj =>
      cases h
      obtain ⟨hwf, henc⟩ := encode_of_decodeAccepted hj
      rw [henc]
      exact ⟨hwf, joinPacket_splitPacket hlt, .inl rfl⟩
    · cases h
  | addrField k =>
    simp only [decodeFn] at h
    split_ifs at h with ha
    cases h
    have hw : w = (expectedAddress k).toNat := by rw [← ha, hmod (n := 8) hlt]
    subst hw
    fin_cases k <;> exact ⟨rfl, rfl, .inl rfl⟩
  | digitField k =>
    by_cases hp : ∃ n, patternOf (BitVec.ofNat 9 w) = patternOfDigit n
    · obtain ⟨n, hn⟩ := hp
      rw [decodeFn, decodeDigitField_of_pattern hn] at h
      cases h
      rw [encode_digitInstr, ← hn, dataValue_of_fields, hmod (n := 9) hlt]
      exact ⟨digitInstr_wellFormed _ _ _, rfl, .inr ⟨k, rfl, rfl⟩⟩
    · rw [decodeFn, decodeDigitField_eq_none (not_exists.1 hp)] at h
      cases h
  | sentinelField =>
    simp only [decodeFn] at h
    split_ifs at h with hs
    cases h
    have hw : w = sentinelValue.toNat := by rw [← hs, hmod (n := 9) hlt]
    exact ⟨rfl, hw.symm, .inl rfl⟩

/-- Settles O2: a dispatch word is that of its own bits, and an operand word that of its fields. -/
theorem encodeAfterDecodeIsIdentity : Obligations.EncodeAfterDecodeIsIdentity := by
  intro ch w i h
  have hlt := lt_of_decode_eq_ok h
  cases ch with
  | sequencer =>
    rw [← dispatchWord_of_lt w hlt, decode_dispatchWord] at h
    cases h
    rw [encode_dispatched]
    exact ⟨dispatched_wellFormed .., dispatchWord_of_lt w hlt, .inl rfl⟩
  | sampler =>
    rw [← edgeWord_of_lt w hlt, decode_edgeWord] at h
    cases h
    rw [encode_edgeDispatched]
    exact ⟨edgeDispatched_wellFormed .., edgeWord_of_lt w hlt, .inl rfl⟩
  | fn c =>
    rw [decode_fn hlt] at h
    obtain ⟨hwf, hbits, hch⟩ := encode_of_decodeFn hlt h
    exact ⟨hwf, hbits, hch.imp_right fun ⟨k, hk, hzero⟩ => ⟨k, congrArg Channel.fn hk, hzero⟩⟩

/-- Settles O3: the rows that fit a word are found by running through both tables. -/
theorem dispatchRowsPartitionTheWords : Obligations.DispatchRowsPartitionTheWords := by
  have hsequencer : ∀ w < 128,
      (sequencerRows.filter (·.matches w)).map (·.mnemonic) = [(decodeSequencer w).mnemonic] := by decide
  have hsampler : ∀ w < 8,
      (samplerRows.filter (·.matches w)).map (·.mnemonic) = [(decodeSampler w).mnemonic] := by decide
  exact ⟨fun w hw => ⟨hsequencer w hw, decode_sequencer hw⟩, fun w hw => ⟨hsampler w hw, decode_sampler hw⟩⟩

/-- Settles O4: the words are closed, and the decoder computes. -/
theorem writtenWordsDecode : Obligations.WrittenWordsDecode :=
  ⟨rfl, rfl, rfl, rfl, rfl, rfl, rfl, rfl, rfl, rfl, rfl⟩

/-! ### The checks of the slots -/

/-- The pattern of a data word, by its number. -/
theorem patternOf_ofNat_toNat (w : Nat) : (patternOf (BitVec.ofNat 9 w)).toNat = w / 2 % 128 := by
  have hmask (n : Nat) : n &&& 127 = n % 128 := Nat.and_two_pow_sub_one_eq_mod n 7
  simp only [patternOf, BitVec.toNat_setWidth, BitVec.toNat_and, BitVec.toNat_ushiftRight, BitVec.toNat_ofNat,
    Nat.shiftRight_eq_div_pow, Nat.reducePow, Nat.reduceMod, pow_one, hmask]
  omega

/-- The ten patterns of the digit table, by their numbers (R88). -/
theorem mem_digitPatterns_iff (p : BitVec 7) :
    p.toNat ∈ [0x7D, 0x05, 0x6B, 0x4F, 0x17, 0x5E, 0x7E, 0x0D, 0x7F, 0x5F] ↔ ∃ n, p = patternOfDigit n := by
  have hlist : [0x7D, 0x05, 0x6B, 0x4F, 0x17, 0x5E, 0x7E, 0x0D, 0x7F, 0x5F] =
      (List.finRange 10).map fun n => (patternOfDigit n).toNat := by decide
  rw [hlist, List.mem_map]
  constructor
  · rintro ⟨n, -, hn⟩
    exact ⟨n, BitVec.eq_of_toNat_eq hn.symm⟩
  · rintro ⟨n, rfl⟩
    exact ⟨n, List.mem_finRange n, rfl⟩

/-- R87: the address slot accepts its frame's address alone. -/
theorem decode_addrField {k : Fin 4} {w : Nat} (hw : w < 256) :
    decode (.fn (.addrField k)) w =
      if w = 0xA0 + k.val then .ok (addressPattern k) else .error (.checkFailed .addressMismatch k) := by
  have hexpected : (expectedAddress k).toNat = 0xA0 + k.val := by fin_cases k <;> rfl
  have hiff : BitVec.ofNat 8 w = expectedAddress k ↔ w = 0xA0 + k.val := by
    rw [← BitVec.toNat_inj, BitVec.toNat_ofNat, Nat.mod_eq_of_lt hw, hexpected]
  rw [decode_fn hw, decodeFn]
  simp only [hiff]

/-- R88: a digit slot accepts the ten patterns, whatever the two free bits. -/
theorem decode_digitField_of_mem {k : Fin 3} {w : Nat} (hw : w < 512)
    (hmem : w / 2 % 128 ∈ [0x7D, 0x05, 0x6B, 0x4F, 0x17, 0x5E, 0x7E, 0x0D, 0x7F, 0x5F]) :
    ∃ i, decode (.fn (.digitField k)) w = .ok i := by
  rw [← patternOf_ofNat_toNat, mem_digitPatterns_iff] at hmem
  obtain ⟨n, hn⟩ := hmem
  exact ⟨_, by rw [decode_fn hw, decodeFn, decodeDigitField_of_pattern hn]⟩

theorem decode_digitField_of_not_mem {k : Fin 3} {w : Nat} (hw : w < 512)
    (hmem : w / 2 % 128 ∉ [0x7D, 0x05, 0x6B, 0x4F, 0x17, 0x5E, 0x7E, 0x0D, 0x7F, 0x5F]) :
    decode (.fn (.digitField k)) w = .error (.checkFailed .invalidDigit k.castSucc) := by
  rw [← patternOf_ofNat_toNat, mem_digitPatterns_iff] at hmem
  rw [decode_fn hw, decodeFn, decodeDigitField_eq_none (not_exists.1 hmem)]

/-- R90: the sentinel slot accepts the sentinel alone. -/
theorem decode_sentinelField {w : Nat} (hw : w < 512) :
    decode (.fn .sentinelField) w =
      if w = 0x20 then .ok .sentinel else .error (.checkFailed .sentinelMismatch 3) := by
  have hiff : BitVec.ofNat 9 w = sentinelValue ↔ w = 0x20 := by
    rw [← BitVec.toNat_inj, BitVec.toNat_ofNat, Nat.mod_eq_of_lt hw]
    rfl
  rw [decode_fn hw, decodeFn]
  simp only [hiff]

/-- Settles O5: each slot by its own rule; a digit slot accepts only the ten patterns because it rejects the others. -/
theorem fieldChecksNameTheCause : Obligations.FieldChecksNameTheCause := by
  refine ⟨fun k w hw => decode_addrField hw, fun k w hw => ⟨⟨?_, decode_digitField_of_mem hw⟩,
    decode_digitField_of_not_mem hw⟩, fun w hw => decode_sentinelField hw⟩
  rintro ⟨i, hi⟩
  by_contra hmem
  rw [decode_digitField_of_not_mem hw hmem] at hi
  cases hi

/-! ### Words placed for the next step -/

theorem fetchWord_of_decode {ch : Channel} {w : Nat} {i : Instr} {s : State} (h : decode ch w = .ok i) :
    fetchWord ch w s = .run i s := by
  rw [fetchWord, h]

@[simp] theorem Level.isHigh_ofBit (b : Bool) : (Level.ofBit b).isHigh = b := by cases b <;> rfl

theorem Level.other_ne (l : Level) : l.other ≠ l := by cases l <;> decide

/-- Every buffer's size fits the seven bits of the cursor. -/
theorem ofNat_expected_toNat (s : State) : (BitVec.ofNat 7 s.expected).toNat = s.expected := by
  have hcap := expected_le s
  rw [BitVec.toNat_ofNat]
  omega

theorem captureFull_iff (s : State) : s.captureFull = true ↔ s.cursor.toNat = s.expected := by simp [State.captureFull]

/-- The counter value placed for a bit of the word is zero exactly when the bit is set. -/
theorem placedCounter_eq_zero_iff (bit : Bool) (n : Nat) :
    (if bit then 0 else if n = 0 then 1 else n) = 0 ↔ bit = true := by
  split_ifs <;> simp_all

/-- The cursor placed for a bit of the word is at the end exactly when the bit is set. -/
theorem placedCursor_eq_expected_iff (s : State) (bit : Bool) :
    (if bit then BitVec.ofNat 7 s.expected else if s.cursor.toNat = s.expected then 0#7 else s.cursor).toNat =
      s.expected ↔ bit = true := by
  have hzero : (0#7).toNat ≠ s.expected := (expected_pos s).ne
  split_ifs with hbit hend
  · exact iff_of_true (ofNat_expected_toNat s) hbit
  · exact iff_of_false hzero hbit
  · exact iff_of_false hend hbit

/-- Each register of the placed state makes its own bit of the word. -/
theorem placeSequencerWord_word (s : State) (w : Nat) :
    (placeSequencerWord s w).sequencerWord =
      dispatchWord (stateOfCode (w / 16)) (w.testBit 3) (w.testBit 2) (w.testBit 1) (w.testBit 0) := by
  have hframe : (placeSequencerWord s w).frameActive = w.testBit 3 := by
    cases hbit : w.testBit 3 <;> simp [State.frameActive, placeSequencerWord, hbit, Level.other_ne]
  have hsettle : (placeSequencerWord s w).settleDone = w.testBit 2 :=
    Bool.eq_iff_iff.2 ((settleDone_iff _).trans (placedCounter_eq_zero_iff _ _))
  have hfull : (placeSequencerWord s w).captureFull = w.testBit 1 :=
    Bool.eq_iff_iff.2 ((captureFull_iff _).trans (placedCursor_eq_expected_iff s _))
  have hbudget : (placeSequencerWord s w).budgetGone = w.testBit 0 :=
    Bool.eq_iff_iff.2 ((budgetGone_iff _).trans (placedCounter_eq_zero_iff _ _))
  rw [State.sequencerWord, hframe, hsettle, hfull, hbudget]
  rfl

/-- The cursor placed for a bit of the word leaves room exactly when the bit is set. -/
theorem placedCursor_lt_expected_iff (s : State) (bit : Bool) :
    (if bit then (if s.cursor.toNat < s.expected then s.cursor else 0#7)
      else if s.cursor.toNat < s.expected then BitVec.ofNat 7 s.expected else s.cursor).toNat < s.expected ↔
      bit = true := by
  have hzero : (0#7).toNat < s.expected := expected_pos s
  split_ifs with hbit hroom hroom
  · exact iff_of_true hroom hbit
  · exact iff_of_true hzero hbit
  · exact iff_of_false (ofNat_expected_toNat s).not_lt hbit
  · exact iff_of_false hroom hbit

/-- Gate, cursor and the edge's level make the bits of the sampler's word. -/
theorem placeSamplerWord_word (s : State) (w : Nat) :
    ((placeSamplerWord s w).setDataLine (Level.ofBit (w.testBit 0))).samplerWord =
      edgeWord (w.testBit 2) (w.testBit 1) (w.testBit 0) := by
  have hroom : ((placeSamplerWord s w).setDataLine (Level.ofBit (w.testBit 0))).hasRoom = w.testBit 1 :=
    Bool.eq_iff_iff.2 ((hasRoom_iff _).trans (placedCursor_lt_expected_iff s _))
  rw [State.samplerWord, hroom, setDataLine_dataLine, Level.isHigh_ofBit]
  rfl

/-- A sequencer word placed for the next step is what the tick fetches. -/
theorem fetch_placeSequencerWord {s : State} {w : Nat} {i : Instr} (h : decode .sequencer w = .ok i) :
    fetch (placeSequencerWord s w) = .run i ((placeSequencerWord s w).setEvents s.events) := by
  have hword : (placeSequencerWord s w).sequencerWord.toNat = w := by
    rw [placeSequencerWord_word, dispatchWord_of_lt w (lt_of_decode_eq_ok h)]
  rw [fetch_of_cons (e := .tick) (es := s.events) rfl]
  exact fetchWord_of_decode (s := (placeSequencerWord s w).setEvents s.events) (hword.symm ▸ h)

/-- A sampler word placed for the next step is what the edge fetches. -/
theorem fetch_placeSamplerWord {s : State} {w : Nat} {i : Instr} (h : decode .sampler w = .ok i) :
    fetch (placeSamplerWord s w) =
      .run i (((placeSamplerWord s w).setEvents s.events).setDataLine (Level.ofBit (w.testBit 0))) := by
  have hword : ((placeSamplerWord s w).setDataLine (Level.ofBit (w.testBit 0))).samplerWord.toNat = w := by
    rw [placeSamplerWord_word, edgeWord_of_lt w (lt_of_decode_eq_ok h)]
  rw [fetch_of_cons (e := .clkFall (Level.ofBit (w.testBit 0))) (es := s.events) rfl]
  exact fetchWord_of_decode
    (s := ((placeSamplerWord s w).setEvents s.events).setDataLine (Level.ofBit (w.testBit 0))) (hword.symm ▸ h)

/-- A listed call by itself fetches the operation of its operand word. -/
theorem fetch_eval {s : State} {c : FnChannel} {w : Nat} {es : List Event} {i : Instr}
    (hes : s.events = .eval c w :: es) (h : decode (.fn c) w = .ok i) : fetch s = .run i (s.setEvents es) :=
  (fetch_of_cons hes).trans (fetchWord_of_decode h)

/-- Settles O6, by the channel the table word is read on. -/
theorem placedTableWordIsRunNext : Obligations.PlacedTableWordIsRunNext := by
  intro s nbits w i h
  suffices hfetch : ∃ t, fetch (placeTableWord s nbits w) = .run i t by
    obtain ⟨t, ht⟩ := hfetch
    exact ⟨t, ht, step_of_run ht⟩
  unfold decodeTableWord at h
  unfold placeTableWord
  cases hch : tableChannel nbits w with
  | none => simp [hch] at h
  | some ch =>
    have hdecode : decode ch w = .ok i := by
      simp only [hch] at h
      split at h
      · next j hj => rw [hj, Option.some.inj h]
      · cases h
    cases ch with
    | sequencer => exact ⟨_, fetch_placeSequencerWord hdecode⟩
    | sampler => exact ⟨_, fetch_placeSamplerWord hdecode⟩
    | fn c => exact ⟨_, fetch_eval rfl hdecode⟩

end Sys2Proof.Machine
end

section
/-! The invariants of spec/10_state.md section 8: reset meets them, and every event keeps them, one lemma for each way
a step changes a register they speak of. -/

namespace Sys2Proof.Machine

/-- The invariants speak of the block's registers and straps alone. -/
theorem Safe.of_registers_eq {s t : State} (h : Safe s)
    (heq : t = { s with
      frameLine := t.frameLine, dataLine := t.dataLine, reports := t.reports, events := t.events,
      freeTicks := t.freeTicks, result := t.result, raceCount := t.raceCount }) : Safe t := by
  rw [heq]
  exact ⟨h.cursorInRange, h.gateIffCapturing, h.emptyAboveCursor, h.emptyBetweenWindows, h.cursorAtExit,
    h.noReservedState, h.bufferCanonical, h.countersLoaded, h.heldInReset⟩

/-- Outside a window the gate is closed (I2). -/
theorem Safe.gateClosed {s : State} (h : Safe s) (hc : s.capState ≠ .capturing) : s.samplerEn = false :=
  Bool.eq_false_iff.2 fun hen => hc (h.gateIffCapturing.1 hen)

theorem bufferCanonical_cleared {s : State} (h : s.buf = Memory.cleared) : BufferCanonical s := by
  rw [BufferCanonical, h]
  exact ⟨Memory.cleared_wf, fun c hc => absurd hc List.not_mem_nil⟩

/-! ### Reset -/

/-- Between windows with an empty buffer and a closed gate only the cursor and the counters are left to bound. -/
theorem Safe.of_idle {s : State} (hc : s.capState = .idle) (hgate : s.samplerEn = false) (hbuf : s.buf = Memory.cleared)
    (hcursor : CursorInRange s) (hcounters : CountersLoaded s) (hheld : HeldInReset s) : Safe s where
  cursorInRange := hcursor
  gateIffCapturing := by simp [GateIffCapturing, hc, hgate]
  emptyAboveCursor := by simp [hc]
  emptyBetweenWindows := by simp [EmptyBetweenWindows, hc, hbuf]
  cursorAtExit := by simp [CursorAtExit, hc]
  noReservedState := by simp [NoReservedState, hc]
  bufferCanonical := bufferCanonical_cleared hbuf
  countersLoaded := hcounters
  heldInReset := hheld

/-- Settles O48: the reset state idles with everything at 0. -/
theorem resetIsSafe : Obligations.ResetIsSafe :=
  Safe.of_idle rfl rfl rfl (Nat.zero_le _) ⟨Nat.zero_le _, Nat.zero_le _⟩ fun h => absurd h Bool.false_ne_true

theorem safe_enterReset (s : State) : Safe s.enterReset :=
  Safe.of_idle rfl rfl rfl (Nat.zero_le _) ⟨Nat.zero_le _, Nat.zero_le _⟩ fun _ => ⟨rfl, rfl, rfl, rfl, rfl, rfl⟩

theorem Safe.leaveReset {s : State} (h : Safe s) : Safe s.leaveReset :=
  ⟨h.cursorInRange, h.gateIffCapturing, h.emptyAboveCursor, h.emptyBetweenWindows, h.cursorAtExit,
    h.noReservedState, h.bufferCanonical, h.countersLoaded, fun hr => absurd hr Bool.false_ne_true⟩

/-! ### The sequencer's ticks -/

theorem Safe.cycleStart {s : State} (h : Safe s) (hr : s.resetAsserted = false) (hc : s.capState = .idle) :
    Safe (((s.setCursor 0#7).memClear).goto .busWait) where
  cursorInRange := Nat.zero_le _
  gateIffCapturing := by simp [GateIffCapturing, h.gateClosed (by simp [hc])]
  emptyAboveCursor := by simp
  emptyBetweenWindows := by simp [EmptyBetweenWindows]
  cursorAtExit := by simp [CursorAtExit]
  noReservedState := by simp [NoReservedState]
  bufferCanonical := bufferCanonical_cleared rfl
  countersLoaded := h.countersLoaded
  heldInReset := by simp [hr]

theorem Safe.busIdle {s : State} (h : Safe s) (hr : s.resetAsserted = false) (hc : s.capState = .busWait) :
    Safe ((s.setSettle s.straps.settleTicks).goto .settle) where
  cursorInRange := h.cursorInRange
  gateIffCapturing := by simp [GateIffCapturing, h.gateClosed (by simp [hc])]
  emptyAboveCursor := by simpa [hc] using h.emptyAboveCursor
  emptyBetweenWindows := by simpa [EmptyBetweenWindows, hc] using h.emptyBetweenWindows
  cursorAtExit := by simp [CursorAtExit]
  noReservedState := by simp [NoReservedState]
  bufferCanonical := h.bufferCanonical
  countersLoaded := ⟨le_rfl, h.countersLoaded.2⟩
  heldInReset := by simp [hr]

theorem Safe.settleWait {s : State} (h : Safe s) (hr : s.resetAsserted = false) :
    Safe (s.setSettle (s.settleCnt - 1)) where
  cursorInRange := h.cursorInRange
  gateIffCapturing := h.gateIffCapturing
  emptyAboveCursor := h.emptyAboveCursor
  emptyBetweenWindows := h.emptyBetweenWindows
  cursorAtExit := h.cursorAtExit
  noReservedState := h.noReservedState
  bufferCanonical := h.bufferCanonical
  countersLoaded := ⟨(Nat.sub_le _ _).trans h.countersLoaded.1, h.countersLoaded.2⟩
  heldInReset := by simp [hr]

theorem Safe.arm {s : State} (h : Safe s) (hr : s.resetAsserted = false) (hc : s.capState = .settle) :
    Safe (((s.setBudget s.straps.budgetTicks).setGate true).goto .capturing) where
  cursorInRange := h.cursorInRange
  gateIffCapturing := by simp [GateIffCapturing]
  emptyAboveCursor := by simpa [hc] using h.emptyAboveCursor
  emptyBetweenWindows := by simp [EmptyBetweenWindows]
  cursorAtExit := by simp [CursorAtExit]
  noReservedState := by simp [NoReservedState]
  bufferCanonical := h.bufferCanonical
  countersLoaded := ⟨h.countersLoaded.1, le_rfl⟩
  heldInReset := by simp [hr]

theorem Safe.poll {s : State} (h : Safe s) (hr : s.resetAsserted = false) : Safe (s.setBudget (s.budgetCnt - 1)) where
  cursorInRange := h.cursorInRange
  gateIffCapturing := h.gateIffCapturing
  emptyAboveCursor := h.emptyAboveCursor
  emptyBetweenWindows := h.emptyBetweenWindows
  cursorAtExit := h.cursorAtExit
  noReservedState := h.noReservedState
  bufferCanonical := h.bufferCanonical
  countersLoaded := ⟨h.countersLoaded.1, (Nat.sub_le _ _).trans h.countersLoaded.2⟩
  heldInReset := by simp [hr]

theorem Safe.captureDone {s : State} (h : Safe s) (hr : s.resetAsserted = false) (hc : s.capState = .capturing)
    (hfull : s.captureFull = true) : Safe (s.closeWindow .complete) where
  cursorInRange := h.cursorInRange
  gateIffCapturing := by simp [GateIffCapturing]
  emptyAboveCursor := by simpa [hc] using h.emptyAboveCursor
  emptyBetweenWindows := by simp [EmptyBetweenWindows]
  cursorAtExit := by simpa [CursorAtExit] using (captureFull_iff s).1 hfull
  noReservedState := by simp [NoReservedState]
  bufferCanonical := h.bufferCanonical
  countersLoaded := h.countersLoaded
  heldInReset := by simp [hr]

theorem Safe.captureTimeout {s : State} (h : Safe s) (hr : s.resetAsserted = false) (hc : s.capState = .capturing)
    (hfull : s.captureFull = false) : Safe (s.closeWindow .timedOut) where
  cursorInRange := h.cursorInRange
  gateIffCapturing := by simp [GateIffCapturing]
  emptyAboveCursor := by simpa [hc] using h.emptyAboveCursor
  emptyBetweenWindows := by simp [EmptyBetweenWindows]
  cursorAtExit := by simpa [CursorAtExit] using lt_of_le_of_ne h.cursorInRange ((captureFull_eq_false_iff s).1 hfull)
  noReservedState := by simp [NoReservedState]
  bufferCanonical := h.bufferCanonical
  countersLoaded := h.countersLoaded
  heldInReset := by simp [hr]

theorem Safe.endCycle {s : State} (h : Safe s) (hr : s.resetAsserted = false) (hc : s.capState ≠ .capturing)
    (r : Report) : Safe (s.endCycle r) :=
  Safe.of_idle rfl (h.gateClosed hc) rfl h.cursorInRange h.countersLoaded (by simp [hr])

/-- The reserved codes do not occur (I6), so every tick outside reset is one of the operations above. -/
theorem Safe.tickNext {s : State} (h : Safe s) (hr : s.resetAsserted = false) : Safe (tickNext s) := by
  unfold Machine.tickNext
  cases hc : s.capState with
  | idle => exact h.cycleStart hr hc
  | busWait =>
    cases s.frameActive with
    | true => exact h
    | false => exact h.busIdle hr hc
  | settle =>
    cases s.settleDone with
    | true => exact h.arm hr hc
    | false => exact h.settleWait hr
  | capturing =>
    cases hfull : s.captureFull with
    | true => exact h.captureDone hr hc hfull
    | false =>
      cases s.budgetGone with
      | true => exact h.captureTimeout hr hc hfull
      | false => exact h.poll hr
  | complete => exact h.endCycle hr (by simp [hc]) _
  | timedOut => exact h.endCycle hr (by simp [hc]) _
  | reserved110 => exact absurd hc h.noReservedState.1
  | reserved111 => exact absurd hc h.noReservedState.2

/-! ### The sampler's edges -/

/-- A sample is stored at the cursor, which then stands above it, and only while the window is open. -/
theorem Safe.sample {s : State} (h : Safe s) (hr : s.resetAsserted = false) (hen : s.samplerEn = true)
    (hlt : s.cursor.toNat < s.expected) (d : Bool) :
    Safe { s with buf := s.sampledBuf d, cursor := s.cursor + 1#7 } where
  cursorInRange := (cursor_succ_toNat hlt).trans_le hlt
  gateIffCapturing := h.gateIffCapturing
  emptyAboveCursor := by
    intro hc a ha hle
    have habove : s.cursor.toNat + 1 ≤ a := cursor_succ_toNat hlt ▸ hle
    exact (Memory.bit_write_other _ (Nat.ne_of_gt habove)).trans (h.emptyAboveCursor hc a ha (Nat.le_of_succ_le habove))
  emptyBetweenWindows := by simp [EmptyBetweenWindows, h.gateIffCapturing.1 hen]
  cursorAtExit := by simp [CursorAtExit, h.gateIffCapturing.1 hen]
  noReservedState := h.noReservedState
  bufferCanonical := by
    refine ⟨Memory.write_wf h.bufferCanonical.1 _ _, fun c hc => ?_⟩
    rcases Memory.mem_write hc with heq | hmem
    · exact heq.trans_lt hlt
    · exact h.bufferCanonical.2 c hmem
  countersLoaded := h.countersLoaded
  heldInReset := by simp [hr]

/-- Everything an edge can do: a sample, or nothing. -/
theorem edgeNext_cases (s : State) :
    (s.samplerEn = true ∧ s.cursor.toNat < s.expected ∧
        edgeNext s = { s with buf := s.sampledBuf s.dataLine.isHigh, cursor := s.cursor + 1#7 }) ∨
      ((s.samplerEn = false ∨ s.expected ≤ s.cursor.toNat) ∧ edgeNext s = s) := by
  by_cases hen : s.samplerEn = true
  · rcases Nat.lt_or_ge s.cursor.toNat s.expected with hlt | hge
    · exact .inl ⟨hen, hlt, edgeNext_of_room hen hlt⟩
    · exact .inr ⟨.inr hge, by simp [edgeNext, State.hasRoom, hge]⟩
  · rw [Bool.not_eq_true] at hen
    exact .inr ⟨.inl hen, edgeNext_of_gateClosed hen⟩

theorem Safe.edgeNext {s : State} (h : Safe s) (hr : s.resetAsserted = false) : Safe (edgeNext s) := by
  rcases edgeNext_cases s with ⟨hen, hlt, heq⟩ | ⟨-, heq⟩
  · rw [heq]
    exact h.sample hr hen hlt _
  · rwa [heq]

/-! ### Every step -/

theorem Safe.afterEvent {s : State} (h : Safe s) : Safe s.afterEvent := h.of_registers_eq (by rw [afterEvent_eq])

theorem Safe.setDataLine {s : State} (h : Safe s) (l : Level) : Safe (s.setDataLine l) := h.of_registers_eq rfl

theorem Safe.setFrameLine {s : State} (h : Safe s) (l : Level) : Safe (s.setFrameLine l) := h.of_registers_eq rfl

theorem OnlyAnswers.safe {s t : State} (h : OnlyAnswers s t) (hs : Safe s) : Safe t := hs.of_registers_eq (by rw [h])

/-- Settles O49, by the event that comes next. -/
theorem everyStepKeepsSafe : Obligations.EveryStepKeepsSafe := by
  intro s t h hstep
  have hnext := h.afterEvent
  rcases step_cases hstep with ⟨_, ⟨hr, rfl⟩ | ⟨_, rfl⟩⟩ | ⟨l, _, ⟨hr, rfl⟩ | ⟨_, rfl⟩⟩ | ⟨l, _, rfl⟩ | ⟨l, _, rfl⟩ |
    ⟨_, rfl⟩ | ⟨_, rfl⟩ | ⟨c, w, _, ha⟩
  · exact hnext.tickNext (by simpa using hr)
  · exact hnext
  · exact (hnext.setDataLine l).edgeNext (by simpa using hr)
  · exact hnext.setDataLine l
  · exact hnext.setFrameLine l
  · exact hnext.setDataLine l
  · exact safe_enterReset _
  · exact hnext.leaveReset
  · exact ha.safe hnext

end Sys2Proof.Machine
end

section
/-! FrameDecoder's two reads by themselves (spec/42_frame_decoder.md): the folds as binary numbers and as inverses of
the bits on the wire, the cells a read sees, and the operations inside and outside their precondition. -/

namespace Sys2Proof.Machine

/-! ### The folds as binary numbers -/

/-- The bits as a binary number, the first most significant, continuing from a number `n`. -/
def appendBits (n : Nat) (bits : List Bool) : Nat := bits.foldl (fun a b => 2 * a + b.toNat) n

theorem appendBits_eq (n : Nat) (bits : List Bool) : appendBits n bits = n * 2 ^ bits.length + appendBits 0 bits := by
  induction bits generalizing n with
  | nil => simp [appendBits]
  | cons b bits ih =>
    have hcons (m : Nat) : appendBits m (b :: bits) = appendBits (2 * m + b.toNat) bits := rfl
    rw [hcons, hcons, ih, ih (2 * 0 + b.toNat), List.length_cons]
    ring

theorem appendBits_lt (bits : List Bool) : appendBits 0 bits < 2 ^ bits.length := by
  induction bits with
  | nil => exact Nat.one_pos
  | cons b bits ih =>
    have hb := b.toNat_le
    have hcons : appendBits 0 (b :: bits) = b.toNat * 2 ^ bits.length + appendBits 0 bits := by
      rw [← appendBits_eq]
      simp [appendBits]
    have hle : b.toNat * 2 ^ bits.length ≤ 1 * 2 ^ bits.length := Nat.mul_le_mul_right _ hb
    rw [hcons, List.length_cons, Nat.pow_succ]
    omega

/-- The number of a run of bits, place by place. -/
theorem appendBits_range (f : Nat → Bool) (n : Nat) :
    appendBits 0 ((List.range n).map f) = ∑ i ∈ Finset.range n, (f i).toNat * 2 ^ (n - 1 - i) := by
  induction n with
  | zero => rfl
  | succ n ih =>
    have hlast : appendBits 0 ((List.range (n + 1)).map f) = 2 * appendBits 0 ((List.range n).map f) + (f n).toNat := by
      simp [appendBits, List.range_succ]
    have hplace : ∀ i ∈ Finset.range n, (f i).toNat * 2 ^ (n + 1 - 1 - i) = 2 * ((f i).toNat * 2 ^ (n - 1 - i)) := by
      intro i hi
      have hexp : n + 1 - 1 - i = (n - 1 - i) + 1 := by
        have := Finset.mem_range.1 hi
        omega
      rw [hexp, Nat.pow_succ]
      ring
    rw [hlast, ih, Finset.sum_range_succ, Finset.sum_congr rfl hplace, ← Finset.mul_sum]
    simp

/-- A fold in any number of bits is the binary number in that many bits. -/
theorem foldl_shiftIn_ofNat {w : Nat} (n : Nat) (bits : List Bool) :
    bits.foldl shiftIn (BitVec.ofNat w n) = BitVec.ofNat w (appendBits n bits) := by
  have hstep (n : Nat) (b : Bool) : shiftIn (BitVec.ofNat w n) b = BitVec.ofNat w (2 * n + b.toNat) := by
    refine BitVec.eq_of_getLsbD_eq fun i hi => ?_
    rw [getLsbD_shiftIn _ _ hi, ← Nat.bit_val, BitVec.getLsbD_ofNat, BitVec.getLsbD_ofNat]
    cases i with
    | zero => simp [hi]
    | succ i => simp [hi, Nat.lt_of_succ_lt hi, Nat.testBit_bit_succ]
  induction bits generalizing n with
  | nil => rfl
  | cons b bits ih => rw [List.foldl_cons, hstep, ih]; rfl

/-- Nothing is shifted out while there are no more bits than the accumulator holds (R156). -/
theorem foldl_shiftIn_toNat {w : Nat} {bits : List Bool} (h : bits.length ≤ w) :
    (bits.foldl shiftIn (0#w)).toNat = appendBits 0 bits := by
  have hlt : appendBits 0 bits < 2 ^ w := (appendBits_lt bits).trans_le (Nat.pow_le_pow_right Nat.two_pos h)
  rw [foldl_shiftIn_ofNat, BitVec.toNat_ofNat, Nat.mod_eq_of_lt hlt]

/-- The unbounded fold. -/
theorem foldl_xor_eq_appendBits (bits : List Bool) :
    bits.foldl (fun (a : Nat) b => (a <<< 1) ^^^ b.toNat) 0 = appendBits 0 bits := by
  have hstep : (fun (a : Nat) (b : Bool) => (a <<< 1) ^^^ b.toNat) = fun a b => 2 * a + b.toNat := by
    funext a b
    have hshift : a <<< 1 = Nat.bit false a := by simp [Nat.bit_val, Nat.shiftLeft_eq, Nat.mul_comm]
    have hsample : b.toNat = Nat.bit b 0 := by simp [Nat.bit_val]
    rw [← Nat.bit_val b a, hshift, hsample, Nat.xor_bit, Bool.false_bne, Nat.xor_zero]
  rw [hstep, appendBits]

/-! ### The folds as inverses of the bits on the wire -/

/-- Any cells are the bits of some field. -/
theorem exists_wireBits_eq {w : Nat} {cells : List Bool} (h : cells.length = w) :
    ∃ v : BitVec w, wireBits v = cells := by
  subst h
  refine ⟨BitVec.ofBoolListBE cells, List.ext_getElem (by simp [wireBits]) fun i hi hi' => ?_⟩
  simp [wireBits, BitVec.getMsbD_ofBoolListBE, hi']

/-- The fold of as many cells as the accumulator has bits is the field they transmit, whatever the seed. -/
theorem foldl_shiftIn_eq_iff {w : Nat} {cells : List Bool} (h : cells.length = w) (seed v : BitVec w) :
    cells.foldl shiftIn seed = v ↔ cells = wireBits v := by
  obtain ⟨u, rfl⟩ := exists_wireBits_eq h
  rw [foldl_shiftIn_wireBits]
  constructor
  · rintro rfl
    rfl
  · intro heq
    rw [← foldl_shiftIn_wireBits u u, heq, foldl_shiftIn_wireBits]

theorem foldAddress_eq_iff {cells : List Bool} (h : cells.length = 8) (a : BitVec 8) :
    foldAddress cells = a ↔ cells = wireBits a := foldl_shiftIn_eq_iff h 1#8 a

theorem foldData_eq_iff {cells : List Bool} (h : cells.length = 9) (d : BitVec 9) :
    foldData cells = d ↔ cells = wireBits d := foldl_shiftIn_eq_iff h 0#9 d

/-- Settles O32: a fold determines the cells, and the address fold from any seed is the field they transmit. -/
theorem foldsAreInjectiveAndLoseTheSeed : Obligations.FoldsAreInjectiveAndLoseTheSeed := by
  refine ⟨fun x y hx hy h => ?_, fun x y hx hy h => ?_, fun seed x hx => ?_⟩
  · rw [(foldAddress_eq_iff hx _).1 h, ← (foldAddress_eq_iff hy _).1 rfl]
  · rw [(foldData_eq_iff hx _).1 h, ← (foldData_eq_iff hy _).1 rfl]
  · exact (foldl_shiftIn_eq_iff hx seed _).2 ((foldAddress_eq_iff hx _).1 rfl)

/-- The bit at place `i` of a fold is cell `i`. -/
theorem getMsbD_foldl_shiftIn_range {w : Nat} (seed : BitVec w) (f : Nat → Bool) {i : Nat} (hi : i < w) :
    (((List.range w).map f).foldl shiftIn seed).getMsbD i = f i := by
  have hcells := (foldl_shiftIn_eq_iff (cells := (List.range w).map f) (by simp) seed _).1 rfl
  have hget := congrArg (fun l => l[i]?) hcells
  simp only [wireBits, List.getElem?_map, List.getElem?_range hi, Option.map_some, Option.some.injEq] at hget
  exact hget.symm

/-! ### The cells a read sees -/

/-- What a read by itself sees in one cell (U6): any value in a cell at or above the cursor while the gate is open. -/
def State.viewBit (s : State) (a : Nat) : Bool :=
  if s.samplerEn && decide (s.cursor.toNat ≤ a) then Config.racedCell s.raceCount a else Memory.bit s.buf a

theorem view_eq (s : State) : s.view = (List.range s.expected).map s.viewBit := rfl

theorem viewBit_of_gateClosed {s : State} (h : s.samplerEn = false) (a : Nat) : s.viewBit a = Memory.bit s.buf a := by
  simp [State.viewBit, h]

theorem viewBit_of_lt_cursor {s : State} {a : Nat} (h : a < s.cursor.toNat) : s.viewBit a = Memory.bit s.buf a := by
  simp [State.viewBit, h]

/-- The cells a read in range takes out of the buffer. -/
theorem view_window {s : State} {o n : Nat} (h : o + n ≤ 68) :
    (s.view.drop (s.header + o)).take n = (List.range n).map fun i => s.viewBit (s.header + o + i) := by
  have hexpected := expected_eq s
  refine List.ext_getElem ?_ fun i hi hi' => ?_
  · simp only [List.length_take, List.length_drop, view_length, List.length_map, List.length_range]
    omega
  · simp [view_eq]

/-! ### READ_ADDR and READ_DATA -/

/-- READ_ADDR in range answers the fold of its eight cells. -/
theorem exec_readAddr_of_le {o : BitVec 7} {s : State} (ho : o.toNat ≤ 60) :
    exec (.readAddr o) s = .next (s.afterRead.setResult
      (.addr (foldAddress ((List.range 8).map fun i => s.viewBit (s.header + o.toNat + i))))) := by
  have hexpected := expected_eq s
  have hread := readAddrAt_of_le (cells := s.view) (header := s.header) (o := o.toNat) (by rw [view_length]; omega)
  rw [view_window (by omega)] at hread
  simp [exec, execReadAddr, hread]

/-- READ_DATA in range answers the fold of its nine cells. -/
theorem exec_readData_of_le {o : BitVec 7} {s : State} (ho : o.toNat ≤ 59) :
    exec (.readData o) s = .next (s.afterRead.setResult
      (.data (foldData ((List.range 9).map fun i => s.viewBit (s.header + o.toNat + i))))) := by
  have hexpected := expected_eq s
  have hread := readDataAt_of_le (cells := s.view) (header := s.header) (o := o.toNat) (by rw [view_length]; omega)
  rw [view_window (by omega)] at hread
  simp [exec, execReadData, hread]

/-- READ_ADDR out of range is refused (R159). -/
theorem exec_readAddr_of_gt {o : BitVec 7} {s : State} (ho : 60 < o.toNat) :
    exec (.readAddr o) s = .refused (.offsetOutOfRange o) := by
  have hread : memRead s.view (correctedOffset s.header o.toNat) 8 = none :=
    memRead_of_lt (by rw [view_length, expected_eq, correctedOffset]; omega)
  simp [exec, execReadAddr, readAddrAt, hread]

/-- READ_DATA out of range is refused (R159). -/
theorem exec_readData_of_gt {o : BitVec 7} {s : State} (ho : 59 < o.toNat) :
    exec (.readData o) s = .refused (.offsetOutOfRange o) := by
  have hread : memRead s.view (correctedOffset s.header o.toNat) 9 = none :=
    memRead_of_lt (by rw [view_length, expected_eq, correctedOffset]; omega)
  simp [exec, execReadData, readDataAt, hread]

/-- Settles O30. -/
theorem outOfRangeReadsAreRefused : Obligations.OutOfRangeReadsAreRefused :=
  fun _ _ => ⟨exec_readAddr_of_gt, exec_readData_of_gt⟩

theorem afterRead_of_gateClosed {s : State} (h : s.samplerEn = false) : s.afterRead = s := by simp [State.afterRead, h]

theorem afterRead_of_gateOpen {s : State} (h : s.samplerEn = true) : s.afterRead = s.countRace := by
  simp [State.afterRead, h]

/-- Settles O28: the seed of the address fold stands above the eight bits. -/
theorem readAddrIsTheEightCellsInOrder : Obligations.ReadAddrIsTheEightCellsInOrder := by
  intro o s hgate ho
  refine ⟨_, (exec_readAddr_of_le ho).trans (by rw [afterRead_of_gateClosed hgate]; rfl), ?_⟩
  have hlt := appendBits_lt ((List.range 8).map fun i => s.viewBit (s.header + o.toNat + i))
  rw [List.length_map, List.length_range] at hlt
  rw [foldAddress_eq_foldl_shiftIn, foldl_shiftIn_ofNat, BitVec.toNat_ofNat, appendBits_eq, List.length_map,
    List.length_range, Nat.mul_add_mod_of_lt hlt, appendBits_range]
  simp only [viewBit_of_gateClosed hgate]

/-- Settles O29: every accumulator of nine bits or more holds the nine cells as a binary number. -/
theorem readDataIsTheNineCellsInOrder : Obligations.ReadDataIsTheNineCellsInOrder := by
  intro o s hgate ho
  have hlen : ((List.range 9).map fun i => Memory.bit s.buf (s.header + o.toNat + i)).length = 9 := rfl
  have hnum : (foldData ((List.range 9).map fun i => Memory.bit s.buf (s.header + o.toNat + i))).toNat =
      appendBits 0 ((List.range 9).map fun i => Memory.bit s.buf (s.header + o.toNat + i)) :=
    foldl_shiftIn_toNat hlen.le
  refine ⟨_, _, (exec_readData_of_le ho).trans ?_, rfl, ?_, hnum.trans (foldl_xor_eq_appendBits _).symm,
    fun w hw => hnum.trans ?_, hnum.trans (appendBits_range _ _)⟩
  · simp only [viewBit_of_gateClosed hgate, afterRead_of_gateClosed hgate]
    rfl
  · have hstep : (shiftIn : BitVec 9 → Bool → BitVec 9) =
        fun (a : BitVec 9) (b : Bool) => (a <<< 1) ^^^ (if b then 1#9 else 0#9) := by
      funext a b
      cases b <;> rfl
    rw [foldData_eq_foldl_shiftIn, hstep]
  · have hstep : (shiftIn : BitVec w → Bool → BitVec w) =
        fun (a : BitVec w) (b : Bool) => (a <<< 1) ^^^ BitVec.ofNat w b.toNat := by
      funext a b
      rw [shiftIn, ← BitVec.toNat_ofBool, BitVec.ofNat_toNat]
    rw [← hstep, foldl_shiftIn_toNat (hlen.trans_le hw)]

/-- Settles O31: below the cursor a read sees the cells as they are, and each cell is one bit of the answer. -/
theorem readsWithTheGateOpenComplete : Obligations.ReadsWithTheGateOpenComplete := by
  intro o s hgate
  refine ⟨fun ho => ⟨_, (exec_readAddr_of_le ho).trans (by rw [afterRead_of_gateOpen hgate]; rfl), fun i hi hlt => ?_⟩,
    fun ho => ⟨_, (exec_readData_of_le ho).trans (by rw [afterRead_of_gateOpen hgate]; rfl), fun i hi hlt => ?_⟩⟩
  · rw [foldAddress_eq_foldl_shiftIn, getMsbD_foldl_shiftIn_range _ _ hi, viewBit_of_lt_cursor hlt]
  · rw [foldData_eq_foldl_shiftIn, getMsbD_foldl_shiftIn_range _ _ hi, viewBit_of_lt_cursor hlt]

end Sys2Proof.Machine
end

section
/-! What one step reads and writes: the frames of a tick and of an edge, the events that have no operation, the
writers of the gate, the Reports, the buffer and the cursor, and that no step faults. -/

namespace Sys2Proof.Machine

/-! ### Frames -/

/-- A tick writes registers and Reports alone. -/
theorem tickNext_eq (s : State) : tickNext s = { s with
    buf := (tickNext s).buf, cursor := (tickNext s).cursor, capState := (tickNext s).capState,
    samplerEn := (tickNext s).samplerEn, settleCnt := (tickNext s).settleCnt, budgetCnt := (tickNext s).budgetCnt,
    reports := (tickNext s).reports } := by
  unfold tickNext
  cases s.capState with
  | idle => rfl
  | busWait => cases s.frameActive <;> rfl
  | settle => cases s.settleDone <;> rfl
  | capturing => cases s.captureFull <;> cases s.budgetGone <;> rfl
  | complete => rfl
  | timedOut => rfl
  | reserved110 => rfl
  | reserved111 => rfl

@[simp] theorem tickNext_events (s : State) : (tickNext s).events = s.events := by rw [tickNext_eq]
@[simp] theorem tickNext_freeTicks (s : State) : (tickNext s).freeTicks = s.freeTicks := by rw [tickNext_eq]

/-- An edge writes the buffer and the cursor alone. -/
theorem edgeNext_eq (s : State) : edgeNext s = { s with buf := (edgeNext s).buf, cursor := (edgeNext s).cursor } := by
  unfold edgeNext
  split <;> rfl

@[simp] theorem edgeNext_samplerEn (s : State) : (edgeNext s).samplerEn = s.samplerEn := by rw [edgeNext_eq]
@[simp] theorem edgeNext_reports (s : State) : (edgeNext s).reports = s.reports := by rw [edgeNext_eq]
@[simp] theorem edgeNext_events (s : State) : (edgeNext s).events = s.events := by rw [edgeNext_eq]
@[simp] theorem edgeNext_freeTicks (s : State) : (edgeNext s).freeTicks = s.freeTicks := by rw [edgeNext_eq]

/-! ### The gate -/

/-- R126, R128, R129 and R134: the ticks that move the gate. -/
theorem tickNext_samplerEn_ne {s : State} (h : (tickNext s).samplerEn ≠ s.samplerEn) :
    (s.samplerEn = false ∧ s.capState = .settle ∧ s.settleCnt = 0 ∧ (tickNext s).capState = .capturing) ∨
      (s.samplerEn = true ∧ s.capState = .capturing ∧ (tickNext s).capState = .complete ∧
        s.cursor.toNat = s.expected) ∨
      (s.samplerEn = true ∧ s.capState = .capturing ∧ (tickNext s).capState = .timedOut ∧
        s.cursor.toNat ≠ s.expected ∧ s.budgetCnt = 0) ∨
      (s.samplerEn = true ∧ (s.capState = .reserved110 ∨ s.capState = .reserved111) ∧
        (tickNext s).capState = .idle) := by
  rw [← settleDone_iff, ← captureFull_iff, Ne, ← captureFull_iff, ← budgetGone_iff]
  unfold tickNext at h ⊢
  cases hc : s.capState with
  | idle => simp [hc] at h
  | busWait => cases hf : s.frameActive <;> simp [hc, hf] at h
  | settle =>
    cases hz : s.settleDone with
    | false => simp [hc, hz] at h
    | true => simpa [hc, hz] using h
  | capturing =>
    cases hk : s.captureFull with
    | true => simpa [hc, hk] using h
    | false =>
      cases hb : s.budgetGone with
      | false => simp [hc, hk, hb] at h
      | true => simpa [hc, hk, hb] using h
  | complete => simp [hc] at h
  | timedOut => simp [hc] at h
  | reserved110 => simpa [hc] using h
  | reserved111 => simpa [hc] using h

theorem OnlyAnswers.samplerEn_eq {s t : State} (h : OnlyAnswers s t) : t.samplerEn = s.samplerEn := by rw [h]

/-- Settles O53: apart from those ticks only the assertion of `reset` writes the gate. -/
theorem gateChangesOnlyAtItsOperations : Obligations.GateChangesOnlyAtItsOperations := by
  intro s t h hne
  rcases step_cases h with ⟨_, ⟨_, rfl⟩ | ⟨_, rfl⟩⟩ | ⟨l, _, ⟨_, rfl⟩ | ⟨_, rfl⟩⟩ | ⟨l, _, rfl⟩ | ⟨l, _, rfl⟩ |
    ⟨he, rfl⟩ | ⟨_, rfl⟩ | ⟨c, w, _, ha⟩
  · rcases tickNext_samplerEn_ne (s := s.afterEvent) (by simpa using hne) with harm | hdone | htimeout | hfault
    · exact .inl (by simpa using harm)
    · exact .inr (.inl (by simpa using hdone))
    · exact .inr (.inr (.inl (by simpa using htimeout)))
    · exact .inr (.inr (.inr (.inl (by simpa using hfault))))
  · exact absurd (by simp) hne
  · exact absurd (by simp) hne
  · exact absurd (by simp) hne
  · exact absurd (by simp) hne
  · exact absurd (by simp) hne
  · exact .inr (.inr (.inr (.inr ⟨by simpa using hne, he⟩)))
  · exact absurd (by simp) hne
  · exact absurd (by simp [ha.samplerEn_eq]) hne

/-! ### Reports -/

/-- R131 and R132: the ticks that emit a Report. -/
theorem tickNext_reports (s : State) :
    (tickNext s).reports = s.reports ∨
      (∃ r, (tickNext s).reports = s.reports ++ [r] ∧ (tickNext s).capState = .idle ∧
        ((s.capState = .complete ∧ r = resolveCells s.cells s.header) ∨
          (s.capState = .timedOut ∧ r = errorReport .captureTimeout 0))) := by
  unfold tickNext
  cases hc : s.capState with
  | idle => exact .inl rfl
  | busWait => cases s.frameActive <;> exact .inl rfl
  | settle => cases s.settleDone <;> exact .inl rfl
  | capturing => cases s.captureFull <;> cases s.budgetGone <;> exact .inl rfl
  | complete => exact .inr ⟨_, rfl, rfl, .inl ⟨rfl, rfl⟩⟩
  | timedOut => exact .inr ⟨_, rfl, rfl, .inr ⟨rfl, rfl⟩⟩
  | reserved110 => exact .inl rfl
  | reserved111 => exact .inl rfl

theorem OnlyAnswers.reports_eq {s t : State} (h : OnlyAnswers s t) : t.reports = s.reports := by rw [h]

/-- Settles O54: no event but a tick out of reset reaches the output. -/
theorem reportsOnlyAtTheEndOfACycle : Obligations.ReportsOnlyAtTheEndOfACycle := by
  intro s t h
  rcases step_cases h with ⟨_, ⟨hr, rfl⟩ | ⟨_, rfl⟩⟩ | ⟨l, _, ⟨_, rfl⟩ | ⟨_, rfl⟩⟩ | ⟨l, _, rfl⟩ | ⟨l, _, rfl⟩ |
    ⟨_, rfl⟩ | ⟨_, rfl⟩ | ⟨c, w, _, ha⟩
  · rcases tickNext_reports s.afterEvent with hsame | ⟨r, hemit, hidle, hend⟩
    · exact .inl (by simpa using hsame)
    · exact .inr ⟨r, by simpa using hemit, hidle, hr, by simpa using hend⟩
  · exact .inl (by simp)
  · exact .inl (by simp)
  · exact .inl (by simp)
  · exact .inl (by simp)
  · exact .inl (by simp)
  · exact .inl (by simp)
  · exact .inl (by simp)
  · exact .inl (by simp [ha.reports_eq])

/-! ### Buffer and cursor -/

/-- R121, R131 and R132: the ticks that clear the buffer, and the one that moves the cursor. -/
theorem tickNext_buf_cursor (s : State) :
    ((tickNext s).buf = s.buf ∧ (tickNext s).cursor = s.cursor) ∨
      (s.capState = .idle ∧ (tickNext s).capState = .busWait ∧ (tickNext s).buf = [] ∧ (tickNext s).cursor = 0#7) ∨
      ((s.capState = .complete ∨ s.capState = .timedOut) ∧ (tickNext s).capState = .idle ∧ (tickNext s).buf = [] ∧
        (tickNext s).cursor = s.cursor) := by
  unfold tickNext
  cases hc : s.capState with
  | idle => exact .inr (.inl ⟨rfl, rfl, rfl, rfl⟩)
  | busWait => cases s.frameActive <;> exact .inl ⟨rfl, rfl⟩
  | settle => cases s.settleDone <;> exact .inl ⟨rfl, rfl⟩
  | capturing => cases s.captureFull <;> cases s.budgetGone <;> exact .inl ⟨rfl, rfl⟩
  | complete => exact .inr (.inr ⟨.inl rfl, rfl, rfl, rfl⟩)
  | timedOut => exact .inr (.inr ⟨.inr rfl, rfl, rfl, rfl⟩)
  | reserved110 => exact .inl ⟨rfl, rfl⟩
  | reserved111 => exact .inl ⟨rfl, rfl⟩

/-- R110 to R112: an edge samples one cell, or leaves buffer and cursor alone. -/
theorem edgeNext_buf_cursor (s : State) :
    ((edgeNext s).buf = s.buf ∧ (edgeNext s).cursor = s.cursor) ∨
      (s.samplerEn = true ∧ s.cursor.toNat < s.expected ∧ (edgeNext s).cursor.toNat = s.cursor.toNat + 1 ∧
        ∀ a, a ≠ s.cursor.toNat → Memory.byteAt (edgeNext s).buf a = Memory.byteAt s.buf a) := by
  rcases edgeNext_cases s with ⟨hen, hlt, heq⟩ | ⟨-, heq⟩
  · rw [heq]
    exact .inr ⟨hen, hlt, cursor_succ_toNat hlt, fun _ => sampledBuf_byteAt_other s _⟩
  · rw [heq]
    exact .inl ⟨rfl, rfl⟩

theorem OnlyAnswers.buf_cursor_eq {s t : State} (h : OnlyAnswers s t) : t.buf = s.buf ∧ t.cursor = s.cursor := by
  rw [h]
  exact ⟨rfl, rfl⟩

/-- Settles O55, by the event that comes next. -/
theorem bufferAndCursorHaveFourWriters : Obligations.BufferAndCursorHaveFourWriters := by
  intro s t h
  rcases step_cases h with ⟨_, ⟨_, rfl⟩ | ⟨_, rfl⟩⟩ | ⟨l, he, ⟨_, rfl⟩ | ⟨_, rfl⟩⟩ | ⟨l, _, rfl⟩ | ⟨l, _, rfl⟩ |
    ⟨he, rfl⟩ | ⟨_, rfl⟩ | ⟨c, w, _, ha⟩
  · rcases tickNext_buf_cursor s.afterEvent with hsame | hstart | hend
    · exact .inl (by simpa using hsame)
    · exact .inr (.inr (.inl (by simpa using hstart)))
    · exact .inr (.inr (.inr (.inl (by simpa using hend))))
  · exact .inl (by simp)
  · rcases edgeNext_buf_cursor (s.afterEvent.setDataLine l) with hsame | hsample
    · exact .inl (by simpa using hsame)
    · exact .inr (.inl ⟨⟨l, he⟩, by simpa using hsample⟩)
  · exact .inl (by simp)
  · exact .inl (by simp)
  · exact .inl (by simp)
  · exact .inr (.inr (.inr (.inr ⟨he, rfl, rfl⟩)))
  · exact .inl (by simp)
  · exact .inl (by simpa using ha.buf_cursor_eq)

/-! ### Calls by themselves -/

/-- A call by itself that has no answer: its word is wider than the operand (R102), or its offset is outside the
precondition of the read (R159). -/
def RefusedCall (c : FnChannel) (w : Nat) (r : Refusal) : Prop :=
  (r = .operandTooWide (Channel.fn c).width w ∧ 2 ^ (Channel.fn c).width ≤ w) ∨
    (r = .offsetOutOfRange (BitVec.ofNat 7 w) ∧ w < 128 ∧ ((c = .readAddr ∧ 60 < w) ∨ (c = .readData ∧ 59 < w)))

/-- A field pattern of a digit answers its numeral. -/
theorem exec_digitInstr (n : Fin 10) (t stop : Bool) (s : State) :
    exec (digitInstr n t stop) s = .next (s.setResult (.digit true (BitVec.ofNat 4 n.val))) := by
  have hdigit : exec (digitInstr n t stop) s = .next (s.evalDigit (dataValue t (patternOfDigit n) stop)) := by
    fin_cases n <;> rfl
  rw [hdigit, State.evalDigit, digitOf_dataValue]

theorem exec_packetAccepted_next (u x v y w stop : Bool) (p q r : BitVec 7) (s : State) :
    ∃ t, exec (.packetAccepted u p x v q y w r stop) s = .next t := by
  simp only [exec, execPacketAccepted]
  split <;> exact ⟨_, rfl⟩

/-- An operation of a function channel answers, unless it is a read out of range. -/
theorem exec_of_decodeFn {c : FnChannel} {w : Nat} {i : Instr} (hlt : w < 2 ^ (Channel.fn c).width)
    (h : decodeFn c w = .ok i) (s : State) :
    (∃ t, exec i s = .next t) ∨ ∃ r, exec i s = .refused r ∧ RefusedCall c w r := by
  have hoffset (hw : w < 128) : (BitVec.ofNat 7 w).toNat = w := by rw [BitVec.toNat_ofNat, Nat.mod_eq_of_lt hw]
  cases c with
  | readAddr =>
    cases h
    rcases Nat.lt_or_ge 60 w with hgt | hle
    · exact .inr ⟨_, exec_readAddr_of_gt (hgt.trans_eq (hoffset hlt).symm), .inr ⟨rfl, hlt, .inl ⟨rfl, hgt⟩⟩⟩
    · exact .inl ⟨_, exec_readAddr_of_le ((hoffset hlt).trans_le hle)⟩
  | readData =>
    cases h
    rcases Nat.lt_or_ge 59 w with hgt | hle
    · exact .inr ⟨_, exec_readData_of_gt (hgt.trans_eq (hoffset hlt).symm), .inr ⟨rfl, hlt, .inr ⟨rfl, hgt⟩⟩⟩
    · exact .inl ⟨_, exec_readData_of_le ((hoffset hlt).trans_le hle)⟩
  | digit => cases h; exact .inl ⟨_, rfl⟩
  | stopFlag => cases h; exact .inl ⟨_, rfl⟩
  | resolve => cases h; exact .inl ⟨_, rfl⟩
  | packetAccepted =>
    simp only [decodeFn, decodeAccepted] at h
    split_ifs at h
    cases h
    exact .inl (exec_packetAccepted_next ..)
  | addrField k =>
    simp only [decodeFn] at h
    split_ifs at h
    cases h
    fin_cases k <;> exact .inl ⟨_, rfl⟩
  | digitField k =>
    by_cases hp : ∃ n, patternOf (BitVec.ofNat 9 w) = patternOfDigit n
    · obtain ⟨n, hn⟩ := hp
      rw [decodeFn, decodeDigitField_of_pattern hn] at h
      cases h
      exact .inl ⟨_, exec_digitInstr n _ _ s⟩
    · rw [decodeFn, decodeDigitField_eq_none (not_exists.1 hp)] at h
      cases h
  | sentinelField =>
    simp only [decodeFn] at h
    split_ifs at h
    cases h
    exact .inl ⟨_, rfl⟩

/-- A word wider than its channel is the only one rejected as such. -/
theorem decode_of_le {ch : Channel} {w : Nat} (h : 2 ^ ch.width ≤ w) :
    decode ch w = .error (.wordTooWide ch.width w) := if_neg h.not_gt

theorem decodeFn_ne_wordTooWide (c : FnChannel) (w n v : Nat) : decodeFn c w ≠ .error (.wordTooWide n v) := by
  cases c with
  | readAddr | readData | digit | stopFlag | resolve => nofun
  | packetAccepted | digitField k => simp only [decodeFn]; split <;> nofun
  | addrField k | sentinelField => simp only [decodeFn]; split <;> nofun

/-- Everything the step of a call by itself can do. -/
theorem step_eval_cases {s : State} {c : FnChannel} {w : Nat} (h : s.nextEvent = .eval c w) :
    (∃ t, step s = .next t) ∨ ∃ r, step s = .refused r ∧ RefusedCall c w r := by
  have hfetch : fetch s = fetchWord (.fn c) w s.afterEvent := by rw [fetch, h]; rfl
  rcases Nat.lt_or_ge w (2 ^ (Channel.fn c).width) with hlt | hge
  · rcases fetchWord_eq (.fn c) w s.afterEvent with ⟨i, hi, hw⟩ | ⟨k, j, _, hw⟩ | ⟨_, hw⟩ | ⟨n, v, hn, _⟩
    · rw [step_of_run (hfetch.trans hw)]
      exact exec_of_decodeFn hlt ((decode_fn hlt).symm.trans hi) _
    · exact .inl ⟨_, step_of_env (hfetch.trans hw)⟩
    · exact .inl ⟨_, step_of_env (hfetch.trans hw)⟩
    · exact absurd ((decode_fn hlt).symm.trans hn) (decodeFn_ne_wordTooWide c w n v)
  · have hstop : fetch s = .stop (.operandTooWide (Channel.fn c).width w) := by
      rw [hfetch, fetchWord, decode_of_le hge]
    exact .inr ⟨_, step_of_stop hstop, .inl ⟨rfl, hge⟩⟩

/-! ### No step faults -/

/-- Every event but a call by itself has a next state. -/
theorem step_next_of_not_eval {s : State} (h : ∀ c w, s.nextEvent ≠ .eval c w) : ∃ t, step s = .next t := by
  cases he : s.nextEvent with
  | tick =>
    cases hr : s.resetAsserted with
    | false => exact ⟨_, step_nextTick he hr⟩
    | true => exact ⟨_, step_of_env (by rw [fetch, he]; exact fetchTick_of_reset (by simpa using hr))⟩
  | clkFall l =>
    cases hr : s.resetAsserted with
    | false => exact ⟨_, step_nextEdge he hr⟩
    | true => exact ⟨_, step_of_env (by rw [fetch, he]; exact fetchEdge_of_reset l (by simpa using hr))⟩
  | frameLine l => exact ⟨_, step_of_env (by rw [fetch, he]; rfl)⟩
  | dataLine l => exact ⟨_, step_of_env (by rw [fetch, he]; rfl)⟩
  | reset b => cases b <;> exact ⟨_, step_of_env (by rw [fetch, he]; rfl)⟩
  | eval c w => exact absurd he (h c w)

/-- A step has a next state, or it is a listed call that is refused. -/
theorem step_next_or_refused (s : State) :
    (∃ t, step s = .next t) ∨
      ∃ c w es r, s.events = .eval c w :: es ∧ step s = .refused r ∧ RefusedCall c w r := by
  by_cases heval : ∃ c w, s.nextEvent = .eval c w
  · obtain ⟨c, w, he⟩ := heval
    refine (step_eval_cases he).imp_right fun ⟨r, hstep, hr⟩ => ?_
    cases hes : s.events with
    | nil =>
      rcases nextEvent_of_nil hes with htick | ⟨x, hx⟩
      · cases he.symm.trans htick
      · cases x <;> cases he.symm.trans hx
    | cons e es =>
      obtain rfl : e = .eval c w := (nextEvent_of_cons hes).1.symm.trans he
      exact ⟨c, w, es, r, rfl, hstep, hr⟩
  · exact .inl (step_next_of_not_eval fun c w he => heval ⟨c, w, he⟩)

/-! ### The schedule -/

theorem OnlyAnswers.schedule_eq {s t : State} (h : OnlyAnswers s t) :
    t.events = s.events ∧ t.freeTicks = s.freeTicks := by
  rw [h]
  exact ⟨rfl, rfl⟩

/-- A step only takes its event off the schedule. -/
theorem step_schedule {s t : State} (h : step s = .next t) :
    t.events = s.afterEvent.events ∧ t.freeTicks = s.afterEvent.freeTicks := by
  rcases step_cases h with ⟨_, ⟨_, rfl⟩ | ⟨_, rfl⟩⟩ | ⟨l, _, ⟨_, rfl⟩ | ⟨_, rfl⟩⟩ | ⟨l, _, rfl⟩ | ⟨l, _, rfl⟩ |
    ⟨_, rfl⟩ | ⟨_, rfl⟩ | ⟨c, w, _, ha⟩
  · simp
  · simp
  · simp
  · simp
  · simp
  · simp
  · simp
  · simp
  · exact ha.schedule_eq

theorem step_schedule_of_cons {s t : State} {e : Event} {es : List Event} (hes : s.events = e :: es)
    (h : step s = .next t) : t.events = es ∧ t.freeTicks = s.freeTicks := by
  have hsched := step_schedule h
  rwa [(nextEvent_of_cons hes).2] at hsched

/-- Listed stimuli are all taken, and what is listed after them comes next. -/
theorem steps_stimuli (xs : List Stimulus) {s : State} {rest : List Event} (hes : s.events = xs.map eventOf ++ rest) :
    ∃ t, steps xs.length s = .next t ∧ t.events = rest ∧ t.freeTicks = s.freeTicks := by
  induction xs generalizing s with
  | nil => exact ⟨s, rfl, hes, rfl⟩
  | cons x xs ih =>
    have hnot : ∀ c w, s.nextEvent ≠ .eval c w := by
      rw [(nextEvent_of_cons hes).1]
      cases x <;> nofun
    obtain ⟨u, hstep⟩ := step_next_of_not_eval hnot
    obtain ⟨hevents, hticks⟩ := step_schedule_of_cons hes hstep
    obtain ⟨t, hsteps, ht, hfree⟩ := ih hevents
    exact ⟨t, (steps_succ_of_step _ hstep).trans hsteps, ht, hfree.trans hticks⟩

theorem steps_succ_congr {s s' : State} (h : step s = step s') (n : Nat) : steps (n + 1) s = steps (n + 1) s' := by
  rw [steps, steps, h]

/-- R262: once the list has run out, a tick comes after finitely many stimuli, and the list has run out again. -/
theorem free_tick_comes {s : State} (hes : s.events = []) :
    ∃ n t u, steps n s = .next t ∧ t.nextEvent = .tick ∧ step t = .next u ∧ u.events = [] ∧
      u.freeTicks = s.freeTicks + 1 := by
  have hlisted := step_of_nil hes
  have tick_step {t : State} (ht : t.nextEvent = .tick) : ∃ u, step t = .next u :=
    step_next_of_not_eval (by simp [ht])
  obtain ⟨t, hsteps, hlast, hfree⟩ := steps_stimuli (Config.betweenTicks s.freeTicks) (rest := [.tick])
    (s := { s with events := freeStretch s.freeTicks, freeTicks := s.freeTicks + 1 }) rfl
  have ht := (nextEvent_of_cons hlast).1
  obtain ⟨u, hu⟩ := tick_step ht
  obtain ⟨hu_events, hu_free⟩ := step_schedule_of_cons hlast hu
  cases hxs : Config.betweenTicks s.freeTicks with
  | nil =>
    rw [hxs] at hsteps
    cases hsteps
    refine ⟨0, s, u, rfl, ?_, hlisted.trans hu, hu_events, hu_free.trans hfree⟩
    simp [State.nextEvent, State.withSchedule, hes, freeStretch, hxs]
  | cons x xs =>
    rw [hxs] at hsteps
    exact ⟨xs.length + 1, t, u, (steps_succ_congr hlisted _).trans hsteps, ht, hu, hu_events, hu_free.trans hfree⟩

/-- Settles O51. -/
theorem stepNeverFaultsAndRefusesOnlyBadCalls : Obligations.StepNeverFaultsAndRefusesOnlyBadCalls := by
  refine ⟨fun s => ⟨fun r hfault => ?_, fun r hrefused => ?_⟩, fun s t e es hes h => step_schedule_of_cons hes h,
    fun s hes => free_tick_comes hes⟩
  · rcases step_next_or_refused s with ⟨t, h⟩ | ⟨c, w, es, r', hes, h, -⟩ <;> simp [hfault] at h
  · rcases step_next_or_refused s with ⟨t, h⟩ | ⟨c, w, es, r', hes, h, hcall⟩
    · simp [hrefused] at h
    · rw [hrefused, Host.Outcome.refused.injEq] at h
      subst h
      exact ⟨c, w, es, hes, hcall⟩

end Sys2Proof.Machine
end

section
/-! RESOLVE and PACKET_ACCEPTED by themselves, and what the record of a buffer depends on (spec/44_rpm_resolver.md): the
accepted set, the ignored cells, the legal records. -/

namespace Sys2Proof.Machine

/-! ### The two operations by themselves -/

/-- RESOLVE by itself answers the record of its packet, behind the header of either variant. -/
theorem exec_resolve (k : Packet) (s : State) :
    exec (.resolve k) s = .next (s.setResult (.report (packetReport k))) := by
  have hreads := readsPacket_append (List.replicate s.header false) k
  rw [List.length_replicate] at hreads
  rw [← hreads.resolveCells_eq]
  rfl

/-- Settles O37. -/
theorem resolveByItselfAnswersTheRecord : Obligations.ResolveByItselfAnswersTheRecord := exec_resolve

/-- Four bits hold every numeral. -/
theorem digit_mod_sixteen (n : Fin 10) : n.val % 16 = n.val := Nat.mod_eq_of_lt (n.isLt.trans (by decide))

/-- The record of an accepted packet is its reading, whatever the free bits. -/
theorem packetReport_acceptedPacket (u x v y w stop : Bool) (n0 n1 n2 : Fin 10) :
    packetReport (acceptedPacket u (patternOfDigit n0) x v (patternOfDigit n1) y w (patternOfDigit n2) stop) =
      readingReport n0.val n1.val n2.val stop := by
  rw [packetReport, acceptedPacket, getLsbD_zero_dataValue]
  simp [digitOf_dataValue, readingReport, weight, digit_mod_sixteen]

theorem readingReport_eq (n0 n1 n2 : Nat) (stop : Bool) :
    readingReport n0 n1 n2 stop = ⟨false, BitVec.ofNat 14 (n0 * 1000 + n1 * 100 + n2 * 10), .none, 0, stop⟩ := rfl

/-- PACKET_ACCEPTED on three patterns of the table answers their reading. -/
theorem exec_packetAccepted_of_digits (u x v y w stop : Bool) (n0 n1 n2 : Fin 10) (s : State) :
    exec (.packetAccepted u (patternOfDigit n0) x v (patternOfDigit n1) y w (patternOfDigit n2) stop) s =
      .next (s.setResult (.report (readingReport n0.val n1.val n2.val stop))) := by
  simp [exec, execPacketAccepted, digitOfPattern_patternOfDigit, digit_mod_sixteen]

/-- PACKET_ACCEPTED with one pattern outside the table answers that the packet is not accepted. -/
theorem exec_packetAccepted_of_none {p q r : BitVec 7}
    (h : digitOfPattern p = none ∨ digitOfPattern q = none ∨ digitOfPattern r = none) (u x v y w stop : Bool)
    (s : State) : exec (.packetAccepted u p x v q y w r stop) s = .next (s.setResult .notAccepted) := by
  simp only [exec, execPacketAccepted]
  split
  · next hp hq hr => simp [hp, hq, hr] at h
  · rfl

/-- Settles O38: both operations answer the reading of the three numerals. -/
theorem acceptedPacketAnswersItsReading : Obligations.AcceptedPacketAnswersItsReading := by
  refine fun u x v y w stop s => ⟨fun n0 n1 n2 => ⟨_, rfl, ?_, ?_⟩, fun p q r h => ?_⟩
  · rw [exec_packetAccepted_of_digits, readingReport_eq, Nat.mul_comm 1000, Nat.mul_comm 100, Nat.mul_comm 10]
    rfl
  · rw [exec_resolve, packetReport_acceptedPacket, readingReport_eq, Nat.mul_comm 1000, Nat.mul_comm 100,
      Nat.mul_comm 10]
    rfl
  · exact exec_packetAccepted_of_none
      (h.imp digitOfPattern_eq_none (Or.imp digitOfPattern_eq_none digitOfPattern_eq_none)) u x v y w stop s

/-! ### The cells behind a field -/

/-- A field and the cells it is read from determine each other. -/
theorem readAddrAt_eq_some_iff {cells : List Bool} {header o : Nat} (hlen : header + o + 8 ≤ cells.length)
    (a : BitVec 8) : readAddrAt cells header o = some a ↔ (cells.drop (header + o)).take 8 = wireBits a := by
  rw [readAddrAt_of_le hlen, Option.some.injEq]
  exact foldAddress_eq_iff (by rw [List.length_take, List.length_drop]; omega) a

theorem readDataAt_eq_some_iff {cells : List Bool} {header o : Nat} (hlen : header + o + 9 ≤ cells.length)
    (d : BitVec 9) : readDataAt cells header o = some d ↔ (cells.drop (header + o)).take 9 = wireBits d := by
  rw [readDataAt_of_le hlen, Option.some.injEq]
  exact foldData_eq_iff (by rw [List.length_take, List.length_drop]; omega) d

theorem wireBits_injective {w : Nat} {u v : BitVec w} (h : wireBits u = wireBits v) : u = v := by
  rw [← foldl_shiftIn_wireBits u u, h, foldl_shiftIn_wireBits]

/-- The pattern is sent between the bit `t` and the stop flag. -/
theorem wireBits_patternOf (d : BitVec 9) : wireBits (patternOf d) = ((wireBits d).drop 1).take 7 := by
  refine List.ext_getElem rfl fun i hi _ => ?_
  have hi7 : i < 7 := by simpa [wireBits] using hi
  simp only [wireBits, List.getElem_map, List.getElem_range, List.getElem_take, List.getElem_drop]
  rw [BitVec.getMsbD_eq_getLsbD, BitVec.getMsbD_eq_getLsbD, getLsbD_patternOf _ (by omega)]
  simp only [hi7, decide_true, Bool.true_and, show 1 + i < 9 by omega]
  congr 1
  omega

/-- The cells behind the pattern of a data field. -/
theorem wireBits_pattern_of_readDataAt {cells : List Bool} {header o : Nat} {d : BitVec 9}
    (hlen : header + o + 9 ≤ cells.length) (h : readDataAt cells header o = some d) :
    wireBits (patternOf d) = (cells.drop (header + o + 1)).take 7 := by
  rw [wireBits_patternOf, ← (readDataAt_eq_some_iff hlen d).1 h, List.drop_take, List.drop_drop, List.take_take]
  rfl

/-! ### The accepted set -/

/-- R190: there is no error exactly when every frame passes. -/
theorem resolveCells_err_eq_false_iff {cells : List Bool} {header : Nat} :
    (resolveCells cells header).err = false ↔
      (∀ k : Fin 3, DigitFramePasses cells header k) ∧ resolveSentinelFrame cells header = .ok () := by
  refine ⟨resolveCells_err_eq_false, fun ⟨hdigits, hsentinel⟩ => ?_⟩
  simp only [digitFramePasses_iff] at hdigits
  obtain ⟨x0, h0⟩ := hdigits 0
  obtain ⟨x1, h1⟩ := hdigits 1
  obtain ⟨x2, h2⟩ := hdigits 2
  simp [resolveCells, resolveChecks, h0, h1, h2, hsentinel, readingReport]

theorem resolveSentinelFrame_eq_ok_iff {cells : List Bool} {header : Nat} :
    resolveSentinelFrame cells header = .ok () ↔
      readAddrAt cells header 51 = some 0xA3#8 ∧ readDataAt cells header 59 = some 0x020#9 := by
  rcases resolveSentinelFrame_eq cells header with ⟨ha, hd, h⟩ | ⟨ha, h⟩ | ⟨-, hd, h⟩
  · simp only [h, ha, hd, and_self]
  · simp [h, ha]
  · simp [h, hd]

/-- The digit of a data value is valid when its pattern is that of a numeral. -/
theorem digitOf_valid_iff (d : BitVec 9) : (digitOf d).1 = true ↔ ∃ n, patternOf d = patternOfDigit n := by
  rw [← digitOfPattern_isSome_iff, digitOf]
  cases digitOfPattern (patternOf d) <;> simp

/-- The pattern cells of a digit frame spell a numeral exactly when its data value is valid. -/
theorem exists_digit_iff {cells : List Bool} {header o : Nat} (hlen : header + o + 9 ≤ cells.length) :
    (∃ d, readDataAt cells header o = some d ∧ (digitOf d).1 = true) ↔
      ∃ n, (cells.drop (header + o + 1)).take 7 = wireBits (patternOfDigit n) := by
  have hread := readDataAt_of_le hlen
  rw [← wireBits_pattern_of_readDataAt hlen hread, hread]
  simp only [Option.some.injEq, exists_eq_left', digitOf_valid_iff]
  exact exists_congr fun n => ⟨congrArg wireBits, wireBits_injective⟩

/-- Settles O39: every check is about the cells of its own field. -/
theorem resolveAcceptsExactlyTheValidPackets : Obligations.ResolveAcceptsExactlyTheValidPackets := by
  intro v cells hlen
  have hle {o : Nat} (ho : o ≤ 68) : headerBits v + o ≤ cells.length := by
    rw [hlen, expectedBits]
    omega
  have haddr (k : Fin 4) : readAddrAt cells (headerBits v) (17 * k.val) = some (0xA0#8 + BitVec.ofNat 8 k.val) ↔
      (cells.drop (headerBits v + 17 * k.val)).take 8 = wireBits (0xA0#8 + BitVec.ofNat 8 k.val) :=
    readAddrAt_eq_some_iff (by have := hle (o := 17 * k.val + 8) (by omega); omega) _
  have hdigit (k : Fin 3) : (∃ d, readDataAt cells (headerBits v) (17 * k.val + 8) = some d ∧ (digitOf d).1 = true) ↔
      ∃ n, (cells.drop (headerBits v + 17 * k.val + 9)).take 7 = wireBits (patternOfDigit n) :=
    exists_digit_iff (o := 17 * k.val + 8) (by have := hle (o := 17 * k.val + 17) (by omega); omega)
  have hsentinel := readDataAt_eq_some_iff (o := 59) (hle (o := 68) le_rfl) 0x020#9
  rw [resolveCells_err_eq_false_iff, resolveSentinelFrame_eq_ok_iff, ← hsentinel]
  simp only [← haddr, ← hdigit, DigitFramePasses, forall_and]
  have hframes : (∀ k : Fin 4, readAddrAt cells (headerBits v) (17 * k.val) = some (0xA0#8 + BitVec.ofNat 8 k.val)) ↔
      (∀ j : Fin 3, readAddrAt cells (headerBits v) (17 * j.val) = some (0xA0#8 + BitVec.ofNat 8 j.val)) ∧
        readAddrAt cells (headerBits v) 51 = some 0xA3#8 := Fin.forall_fin_succ'
  rw [hframes, and_and_and_comm, and_assoc]

/-! ### The ignored cells -/

/-- A digit depends on the pattern of its data value alone (R103). -/
theorem digitOf_congr {d d' : BitVec 9} (h : patternOf d = patternOf d') : digitOf d = digitOf d' := by
  rw [digitOf, digitOf, h]

/-- Two packets agree in all that RESOLVE checks: addresses, patterns and sentinel. -/
structure SameChecked (k k' : Packet) : Prop where
  a : k.a = k'.a
  d : patternOf k.d = patternOf k'.d
  b : k.b = k'.b
  e : patternOf k.e = patternOf k'.e
  c : k.c = k'.c
  f : patternOf k.f = patternOf k'.f
  g : k.g = k'.g
  h : k.h = k'.h

/-- Such packets have one record, but for the stop flag of frame 2. -/
theorem SameChecked.packetReport_eq {k k' : Packet} (hsame : SameChecked k k') :
    (packetReport k).err = (packetReport k').err ∧ (packetReport k).rpm = (packetReport k').rpm ∧
      (k.f.getLsbD 0 = k'.f.getLsbD 0 → packetReport k = packetReport k') := by
  have hd := digitOf_congr hsame.d
  have he := digitOf_congr hsame.e
  have hf := digitOf_congr hsame.f
  unfold packetReport
  rw [hsame.a, hd, hsame.b, he, hsame.c, hf, hsame.g, hsame.h]
  exact ⟨by simp only [apply_ite Report.err], by simp only [apply_ite Report.rpm], fun hstop => by rw [hstop]⟩

/-- Cells that agree one by one agree as a run. -/
theorem take_drop_congr {x y : List Bool} {o n : Nat} (h : ∀ i < n, x[o + i]? = y[o + i]?) :
    (x.drop o).take n = (y.drop o).take n := by
  refine List.ext_getElem? fun i => ?_
  rw [List.getElem?_take, List.getElem?_take, List.getElem?_drop, List.getElem?_drop]
  split_ifs with hi
  · exact h i hi
  · rfl

/-- The last of nine cells is the lowest bit of the field read from them. -/
theorem getLsbD_zero_of_readDataAt {cells : List Bool} {header o : Nat} {d : BitVec 9}
    (hlen : header + o + 9 ≤ cells.length) (h : readDataAt cells header o = some d) :
    cells[header + o + 8]? = some (d.getLsbD 0) := by
  have hcells := congrArg (fun l => l[8]?) ((readDataAt_eq_some_iff hlen d).1 h)
  simpa [wireBits, List.getElem?_take, BitVec.getMsbD_eq_getLsbD] using hcells

/-- Cells that agree but for headers and free bits hold packets that agree in all that is checked (R105). -/
theorem ReadsPacket.sameChecked {v : Variant} {x y : List Bool} {k k' : Packet} (hx : ReadsPacket x (headerBits v) k)
    (hy : ReadsPacket y (headerBits v) k') (hlenx : x.length = expectedBits v) (hleny : y.length = expectedBits v)
    (h : ∀ i, headerBits v ≤ i → i - headerBits v ∉ [8, 16, 25, 33, 42, 50] → x[i]? = y[i]?) : SameChecked k k' := by
  have hrun {o n : Nat} (hn : ∀ i < n, o + i ∉ [8, 16, 25, 33, 42, 50]) :
      (x.drop (headerBits v + o)).take n = (y.drop (headerBits v + o)).take n :=
    take_drop_congr fun i hi =>
      h _ (by omega) (by rw [Nat.add_assoc, Nat.add_sub_cancel_left]; exact hn i hi)
  have haddr {o : Nat} {a a' : BitVec 8} (ho : o + 8 ≤ 68) (hn : ∀ i < 8, o + i ∉ [8, 16, 25, 33, 42, 50])
      (ha : readAddrAt x (headerBits v) o = some a) (ha' : readAddrAt y (headerBits v) o = some a') : a = a' := by
    rw [readAddrAt_eq_some_iff (by rw [hlenx, expectedBits]; omega), hrun hn] at ha
    rw [readAddrAt_eq_some_iff (by rw [hleny, expectedBits]; omega)] at ha'
    exact wireBits_injective (ha.symm.trans ha')
  have hpattern {o : Nat} {d d' : BitVec 9} (ho : o + 9 ≤ 68) (hn : ∀ i < 7, o + 1 + i ∉ [8, 16, 25, 33, 42, 50])
      (hd : readDataAt x (headerBits v) o = some d) (hd' : readDataAt y (headerBits v) o = some d') :
      patternOf d = patternOf d' := by
    refine wireBits_injective ?_
    rw [wireBits_pattern_of_readDataAt (by rw [hlenx, expectedBits]; omega) hd,
      wireBits_pattern_of_readDataAt (by rw [hleny, expectedBits]; omega) hd']
    exact hrun (o := o + 1) hn
  have hsentinel : k.h = k'.h := by
    have hxh := hx.h
    have hyh := hy.h
    rw [readDataAt_eq_some_iff (by rw [hlenx, expectedBits]), hrun (by decide)] at hxh
    rw [readDataAt_eq_some_iff (by rw [hleny, expectedBits])] at hyh
    exact wireBits_injective (hxh.symm.trans hyh)
  exact
    { a := haddr (by decide) (by decide) hx.a hy.a
      d := hpattern (by decide) (by decide) hx.d hy.d
      b := haddr (by decide) (by decide) hx.b hy.b
      e := hpattern (by decide) (by decide) hx.e hy.e
      c := haddr (by decide) (by decide) hx.c hy.c
      f := hpattern (by decide) (by decide) hx.f hy.f
      g := haddr (by decide) (by decide) hx.g hy.g
      h := hsentinel }

/-- Settles O43: the ignored cells are outside every checked field. -/
theorem ignoredBitsReachNoOutput : Obligations.IgnoredBitsReachNoOutput := by
  intro v x y hlenx hleny h
  obtain ⟨k, hx⟩ := exists_readsPacket hlenx
  obtain ⟨k', hy⟩ := exists_readsPacket hleny
  obtain ⟨herr, hrpm, hrecord⟩ := (hx.sameChecked hy hlenx hleny h).packetReport_eq
  rw [hx.resolveCells_eq, hy.resolveCells_eq]
  refine ⟨herr, hrpm, fun hstop => hrecord (Option.some.inj ?_)⟩
  rw [← getLsbD_zero_of_readDataAt (by rw [hlenx, expectedBits]; omega) hx.f,
    ← getLsbD_zero_of_readDataAt (by rw [hleny, expectedBits]; omega) hy.f]
  exact hstop

/-! ### The legal records -/

/-- The number of a valid digit is that of a numeral. -/
theorem exists_digit_of_valid {d : BitVec 9} (h : (digitOf d).1 = true) :
    ∃ n : Fin 10, (digitOf d).2.toNat = n.val := by
  obtain ⟨n, hn⟩ := (digitOf_valid_iff d).1 h
  refine ⟨n, ?_⟩
  rw [digitOf, hn, digitOfPattern_patternOfDigit]
  exact digit_mod_sixteen n

/-- A record without error is the reading of three numerals. -/
theorem resolveChecks_ok {cells : List Bool} {header : Nat} {r : Report} (h : resolveChecks cells header = .ok r) :
    ∃ (d1 d2 d3 : Fin 10) (stop : Bool), r = readingReport d1.val d2.val d3.val stop := by
  have hnumeral {k : Fin 3} {d : BitVec 9} {n : Nat} (hk : resolveDigitFrame cells header k = .ok (d, n)) :
      ∃ m : Fin 10, n = m.val := by
    obtain ⟨-, -, hvalid, rfl⟩ := resolveDigitFrame_ok hk
    exact exists_digit_of_valid hvalid
  unfold resolveChecks at h
  split at h
  · cases h
  next h0 =>
  split at h
  · cases h
  next h1 =>
  split at h
  · cases h
  next h2 =>
  split at h
  · cases h
  obtain ⟨d1, rfl⟩ := hnumeral h0
  obtain ⟨d2, rfl⟩ := hnumeral h1
  obtain ⟨d3, rfl⟩ := hnumeral h2
  cases h
  exact ⟨d1, d2, d3, _, rfl⟩

/-- The frame an error of RESOLVE names: a digit frame for a digit, frame 3 for the sentinel (R200). -/
theorem resolveChecks_error_frame {cells : List Bool} {header : Nat} {c : Cause} {k : Fin 4}
    (h : resolveChecks cells header = .error (c, k)) :
    (c = .invalidDigit → k ≠ 3) ∧ (c = .sentinelMismatch → k = 3) := by
  rcases resolveChecks_error h with ⟨j, hdigit⟩ | hsentinel
  · obtain ⟨rfl, hc⟩ := resolveDigitFrame_error hdigit
    exact ⟨fun _ => Fin.castSucc_ne_last j, by rcases hc with rfl | rfl <;> nofun⟩
  · obtain ⟨rfl, hc⟩ := resolveSentinelFrame_error hsentinel
    exact ⟨by rcases hc with rfl | rfl <;> nofun, fun _ => rfl⟩

/-- Settles O44: a record of RESOLVE is a reading of three numerals or the record of an error. -/
theorem resolvedRecordFieldsAreLegal : Obligations.ResolvedRecordFieldsAreLegal := by
  refine ⟨?_, rfl, rfl, rfl, rfl, rfl⟩
  rintro cells header _ rfl
  cases hchecks : resolveChecks cells header with
  | ok r =>
    obtain ⟨d1, d2, d3, stop, rfl⟩ := resolveChecks_ok hchecks
    rw [resolveCells, hchecks]
    simp only [readingReport_rpm_toNat]
    refine ⟨by omega, by omega, ?_, ?_, ?_, ?_, ?_, ?_⟩ <;> simp [readingReport]
  | error e =>
    obtain ⟨c, k⟩ := e
    obtain ⟨hdigit, hsentinel⟩ := resolveChecks_error_frame hchecks
    rw [resolveCells_of_checks_error hchecks]
    rcases resolveChecks_error_cause hchecks with rfl | rfl | rfl
    · simp [errorReport]
    · simpa [errorReport] using hdigit
    · simpa [errorReport] using hsentinel

end Sys2Proof.Machine
end

section
/-! One event at a time: what a listed event runs, reset and the input lines, the sequencer's ticks and the sampler's
edges in their own states, the calls by themselves, and the host's payload. -/

namespace Sys2Proof.Machine

/-! ### The operation a listed event runs -/

/-- A tick runs the operation of the sequencer's dispatch word. -/
theorem step_tick_of_decode {s : State} {es : List Event} {i : Instr} (hes : s.events = .tick :: es)
    (hr : s.resetAsserted = false) (h : decode .sequencer s.sequencerWord.toNat = .ok i) :
    step s = exec i (s.setEvents es) := by
  refine step_of_run ((fetch_of_cons hes).trans ?_)
  rw [fetchEvent, fetchTick, setEvents_resetAsserted, hr]
  exact fetchWord_of_decode h

/-- An edge runs the operation of the sampler's dispatch word, on the level it brings. -/
theorem step_edge_of_decode {s : State} {l : Level} {es : List Event} {i : Instr} (hes : s.events = .clkFall l :: es)
    (hr : s.resetAsserted = false) (h : decode .sampler (s.setDataLine l).samplerWord.toNat = .ok i) :
    step s = exec i ((s.setEvents es).setDataLine l) := by
  refine step_of_run ((fetch_of_cons hes).trans ?_)
  rw [fetchEvent, fetchEdge, setDataLine_resetAsserted, setEvents_resetAsserted, hr]
  exact fetchWord_of_decode h

/-- Settles O7. -/
theorem stepRunsTheDecodedOperation : Obligations.StepRunsTheDecodedOperation := by
  refine fun s es i => ⟨step_tick_of_decode, fun hes => ⟨step_of_nil hes, Config.betweenTicks s.freeTicks, rfl⟩,
    fun l => step_edge_of_decode, fun fn w hes h => step_of_run (fetch_eval hes h)⟩

/-- Settles O8: the three ways a word is rejected. -/
theorem rejectedCallAnswersItsCause : Obligations.RejectedCallAnswersItsCause := by
  intro s es fn w hes
  have hfetch : fetch s = fetchWord (.fn fn) w (s.setEvents es) := fetch_of_cons hes
  refine ⟨fun c k h => step_of_env (hfetch.trans ?_), fun h => step_of_env (hfetch.trans ?_),
    fun h => step_of_stop (hfetch.trans ?_)⟩
  · rw [fetchWord, h]
    rfl
  · rw [fetchWord, h]
    rfl
  · rw [fetchWord, decode_of_le h]

/-! ### Reset and the input lines -/

/-- Settles O9: under `reset` neither agent has an operation. -/
theorem resetHoldsAndAbandons : Obligations.ResetHoldsAndAbandons := by
  refine fun s es => ⟨fun hr hes => ?_, fun l hr hes => ?_, fun hes => ?_, fun hes => ?_⟩
  · exact step_of_env ((fetch_of_cons hes).trans (fetchTick_of_reset hr))
  · exact step_of_env ((fetch_of_cons hes).trans (fetchEdge_of_reset l hr))
  · exact step_of_env (fetch_of_cons hes)
  · exact step_of_env (fetch_of_cons hes)

theorem step_frameLine {s : State} {es : List Event} {l : Level} (h : s.events = .frameLine l :: es) :
    step s = .next { s with events := es, frameLine := l } :=
  step_of_env (fetch_of_cons h)

theorem frameActive_iff (s : State) : s.frameActive = true ↔ s.frameLine = s.straps.frameActiveLevel := beq_iff_eq

theorem Level.isHigh_iff (l : Level) : l.isHigh = true ↔ l = .high := by cases l <;> decide

/-- `d` is the lowest bit of the sampler's dispatch word. -/
theorem samplerWord_getLsbD_zero (s : State) : s.samplerWord.getLsbD 0 = s.dataLine.isHigh := by
  rw [State.samplerWord, BitVec.getLsbD_append]
  cases s.dataLine.isHigh <;> rfl

/-- Settles O10. -/
theorem levelChangesTouchOnlyTheirLine : Obligations.LevelChangesTouchOnlyTheirLine := by
  refine fun s es l => ⟨fun hes => ⟨_, step_frameLine hes, rfl, frameActive_iff _⟩,
    fun hes => ⟨_, step_dataLine hes, rfl, ?_⟩, rfl⟩
  rw [samplerWord_getLsbD_zero]
  exact Level.isHigh_iff l

/-! ### The sequencer's operations -/

/-- R121: in Idle a tick starts a cycle. -/
theorem step_tick_of_idle {s : State} {es : List Event} (hr : s.resetAsserted = false) (hc : s.capState = .idle)
    (hes : s.events = .tick :: es) :
    step s = .next { s with events := es, cursor := 0#7, buf := [], capState := .busWait } := by
  rw [step_tick hes hr]
  simp only [tickNext, setEvents_capState, hc]
  rfl

/-- Settles O11: reset leaves the block idle, with nothing for CYCLE_START to clear. -/
theorem firstStepAfterResetIsCycleStart : Obligations.FirstStepAfterResetIsCycleStart :=
  ⟨rfl, fun _ => step_tick_of_idle rfl rfl rfl⟩

/-- Settles O13. -/
theorem cycleStartClearsBufferAndCursor : Obligations.CycleStartClearsBufferAndCursor :=
  fun f z c b _ hc => ⟨_, exec_cycleStart_of_idle f z c b hc, rfl, Memory.byteAt_cleared⟩

/-- Settles O15. -/
theorem busIdleLoadsSettleCounter : Obligations.BusIdleLoadsSettleCounter :=
  fun _ _ _ _ hc hf => if_pos ⟨hc, hf⟩

theorem settleDone_eq_false_iff (s : State) : s.settleDone = false ↔ s.settleCnt ≠ 0 := by simp [State.settleDone]

theorem budgetGone_eq_false_iff (s : State) : s.budgetGone = false ↔ s.budgetCnt ≠ 0 := by simp [State.budgetGone]

/-- Settles O16: a counter that is not 0 is a successor. -/
theorem settleWaitCountsDown : Obligations.SettleWaitCountsDown := by
  intro f c b s hc hz
  obtain ⟨n, hn⟩ := Nat.exists_eq_succ_of_ne_zero hz
  refine ⟨n, hn, (if_pos ⟨hc, (settleDone_eq_false_iff s).2 hz⟩).trans ?_⟩
  rw [hn]
  rfl

/-- Settles O18. -/
theorem pollSpendsBudget : Obligations.PollSpendsBudget := by
  intro f z s hc hlt hb
  obtain ⟨n, hn⟩ := Nat.exists_eq_succ_of_ne_zero hb
  have hfull := (captureFull_eq_false_iff s).2 hlt.ne
  refine ⟨n, hn, (if_pos ⟨hc, hfull, (budgetGone_eq_false_iff s).2 hb⟩).trans ?_⟩
  rw [hn]
  rfl

/-- R128: with the buffer full a tick closes the window, whatever the budget. -/
theorem step_tick_of_captureFull {s : State} {es : List Event} (hr : s.resetAsserted = false)
    (hc : s.capState = .capturing) (hfull : s.cursor.toNat = s.expected) (hes : s.events = .tick :: es) :
    step s = .next { s with events := es, samplerEn := false, capState := .complete } := by
  have hk : s.captureFull = true := (captureFull_iff s).2 hfull
  rw [step_tick hes hr]
  simp only [tickNext, setEvents_capState, hc, setEvents_captureFull, hk, if_true]
  rfl

/-- Settles O19. -/
theorem captureDoneWinsTheTie : Obligations.CaptureDoneWinsTheTie :=
  fun _ _ _ s hc hfull => ⟨if_pos ⟨hc, (captureFull_iff s).2 hfull⟩,
    fun _ hr hes => step_tick_of_captureFull hr hc hfull hes⟩

/-- Settles O21. -/
theorem decodeReportEmitsTheResolvedReport : Obligations.DecodeReportEmitsTheResolvedReport :=
  fun _ _ _ _ _ hc => ⟨_, if_pos hc, rfl, Memory.byteAt_cleared⟩

/-- Settles O23. -/
theorem stateFaultRecoversToIdle : Obligations.StateFaultRecoversToIdle :=
  fun _ _ _ _ _ _ hc => if_pos hc

/-- Settles O47: the end of a cycle and the start of one overwrite what differs. -/
theorem partialDataDoesNotLeak : Obligations.PartialDataDoesNotLeak := by
  refine fun f z c b s m v => ⟨fun hc => ⟨_, exec_timeoutReport_of_timedOut f z c b hc, ?_⟩,
    fun hc => ⟨_, exec_cycleStart_of_idle f z c b hc, ?_⟩⟩
  · exact exec_timeoutReport_of_timedOut (s := { s with buf := m }) f z c b hc
  · exact exec_cycleStart_of_idle (s := { s with buf := m, cursor := v }) f z c b hc

theorem hasRoom_eq_false_iff (s : State) : s.hasRoom = false ↔ s.expected ≤ s.cursor.toNat := by simp [State.hasRoom]

/-- Settles O24: each operation is guarded by the condition of its dispatch word. -/
theorem undispatchedOperationsAreRefused : Obligations.UndispatchedOperationsAreRefused := by
  intro s0 f z c b d l s
  simp only [← settleDone_iff, ← settleDone_eq_false_iff, ← captureFull_iff, ← captureFull_eq_false_iff,
    ← budgetGone_iff, ← budgetGone_eq_false_iff, ← hasRoom_iff, ← hasRoom_eq_false_iff]
  exact ⟨fun h => if_neg h, fun h => if_neg h, fun h => if_neg h, fun h => if_neg h, fun h => if_neg h,
    fun h => if_neg h, fun h => if_neg h, fun h => if_neg h, fun h => if_neg h, fun h => if_neg h,
    fun h h' => if_neg (not_or.2 ⟨h, h'⟩), fun h => if_neg h, fun h => if_neg h,
    fun h => if_neg (by simp [h])⟩

/-! ### The sampler's edges -/

/-- R110: with the gate open and a cell left, an edge is sampled. -/
theorem step_edge_of_room {s : State} {l : Level} {es : List Event} (hr : s.resetAsserted = false)
    (hen : s.samplerEn = true) (hlt : s.cursor.toNat < s.expected) (hes : s.events = .clkFall l :: es) :
    step s = .next { s with
      events := es, dataLine := l, buf := s.sampledBuf l.isHigh, cursor := s.cursor + 1#7 } := by
  rw [step_edge hes hr, edgeNext_of_room (s := (s.setEvents es).setDataLine l) hen hlt]
  rfl

/-- R111 and R112: any other edge only brings the level of the data line. -/
theorem step_edge_of_dropped {s : State} {l : Level} {es : List Event} (hr : s.resetAsserted = false)
    (hdrop : s.samplerEn = false ∨ s.expected ≤ s.cursor.toNat) (hes : s.events = .clkFall l :: es) :
    step s = .next { s with events := es, dataLine := l } := by
  rw [step_edge hes hr]
  rcases edgeNext_cases ((s.setEvents es).setDataLine l) with ⟨hen, hlt, -⟩ | ⟨-, heq⟩
  · rcases hdrop with hclosed | hfull
    · exact absurd (hclosed.symm.trans hen) Bool.false_ne_true
    · exact absurd hlt hfull.not_gt
  · rw [heq]
    rfl

/-- Settles O26. -/
theorem droppedEdgesChangeNothing : Obligations.DroppedEdgesChangeNothing :=
  fun _ _ s => ⟨fun hen hfull => if_pos ⟨hen, (hasRoom_eq_false_iff s).2 hfull⟩, fun hen => if_pos hen,
    fun _ _ hdrop hr hes => step_edge_of_dropped hr hdrop hes⟩

/-- Settles O27: an edge fills the last cell before the tick looks, or comes after the tick has closed the gate. -/
theorem lastEdgeAndLastTickInEitherOrder : Obligations.LastEdgeAndLastTickInEitherOrder := by
  intro l s hc hen hr hlast hb
  have hlt : s.cursor.toNat < s.expected := by omega
  have hfull : (s.cursor + 1#7).toNat = s.expected := (cursor_succ_toNat hlt).trans hlast
  constructor
  · have hedge := step_edge_of_room (s := { s with events := [.clkFall l, .tick] }) hr hen hlt rfl
    have htick := step_tick_of_captureFull (es := [])
      (s := { s with events := [.tick], dataLine := l, buf := s.sampledBuf l.isHigh, cursor := s.cursor + 1#7 })
      hr hc hfull rfl
    exact ⟨_, (steps_succ_of_step 1 hedge).trans (steps_succ_of_step 0 htick), rfl, hfull,
      sampledBuf_bit_cursor s l.isHigh, rfl⟩
  · have htick := step_tick_of_budgetGone (s := { s with events := [.tick, .clkFall l] }) hr hc hlt hb rfl
    have hedge := step_edge_of_dropped (l := l) (es := [])
      (s := { s with events := [.clkFall l], capState := .timedOut, samplerEn := false }) hr (.inl rfl) rfl
    exact (steps_succ_of_step 1 htick).trans (steps_succ_of_step 0 hedge)

/-! ### Digits, field patterns and the payload -/

/-- The ten-entry table of R165, entry by entry. -/
theorem digitOf_eq_table (t : Bool) (p : BitVec 7) (stop : Bool) :
    FnResult.digit (digitOf (dataValue t p stop)).1 (digitOf (dataValue t p stop)).2 =
      if p = 0x7D#7 then .digit true 0#4
      else if p = 0x05#7 then .digit true 1#4
      else if p = 0x6B#7 then .digit true 2#4
      else if p = 0x4F#7 then .digit true 3#4
      else if p = 0x17#7 then .digit true 4#4
      else if p = 0x5E#7 then .digit true 5#4
      else if p = 0x7E#7 then .digit true 6#4
      else if p = 0x0D#7 then .digit true 7#4
      else if p = 0x7F#7 then .digit true 8#4
      else if p = 0x5F#7 then .digit true 9#4
      else .digit false 0#4 := by
  rw [digitOf, patternOf_dataValue]
  by_cases h : ∃ n, p = patternOfDigit n
  · obtain ⟨n, rfl⟩ := h
    fin_cases n <;> rfl
  · have hne : ∀ n, p ≠ patternOfDigit n := not_exists.1 h
    rw [digitOfPattern_eq_none hne, if_neg (show p ≠ 0x7D#7 from hne 0), if_neg (show p ≠ 0x05#7 from hne 1),
      if_neg (show p ≠ 0x6B#7 from hne 2), if_neg (show p ≠ 0x4F#7 from hne 3), if_neg (show p ≠ 0x17#7 from hne 4),
      if_neg (show p ≠ 0x5E#7 from hne 5), if_neg (show p ≠ 0x7E#7 from hne 6), if_neg (show p ≠ 0x0D#7 from hne 7),
      if_neg (show p ≠ 0x7F#7 from hne 8), if_neg (show p ≠ 0x5F#7 from hne 9)]

/-- Settles O33. -/
theorem digitLooksUpTheSegmentPattern : Obligations.DigitLooksUpTheSegmentPattern := by
  intro t p stop s
  rw [← digitOf_eq_table t p stop]
  exact ⟨rfl, patternOf_dataValue t p stop, dataValue_toNat t p stop⟩

/-- Settles O34. -/
theorem stopFlagIsTheLowestBit : Obligations.StopFlagIsTheLowestBit := by
  refine ⟨fun t p stop s => ⟨?_, getLsbD_zero_dataValue t p stop⟩, fun d => rfl, rfl, rfl⟩
  have hstop : stopFlagOf (dataValue t p stop) = stop := getLsbD_zero_dataValue t p stop
  simp only [exec, execStopFlag, hstop]
  rfl

/-- Settles O35. -/
theorem fieldPatternsAnswerTheirCheck : Obligations.FieldPatternsAnswerTheirCheck :=
  fun t stop s => ⟨rfl, rfl, rfl, rfl, rfl, exec_digitInstr 0 t stop s, exec_digitInstr 1 t stop s,
    exec_digitInstr 2 t stop s, exec_digitInstr 3 t stop s, exec_digitInstr 4 t stop s, exec_digitInstr 5 t stop s,
    exec_digitInstr 6 t stop s, exec_digitInstr 7 t stop s, exec_digitInstr 8 t stop s, exec_digitInstr 9 t stop s⟩

/-- Settles O45: the payload is chosen by `err`, then by whether `rpm` is 0. -/
theorem hostPayloadFollowsErrAndRpm : Obligations.HostPayloadFollowsErrAndRpm :=
  fun r => ⟨fun herr => if_pos herr, fun herr hzero => by simp [payloadOf, herr, hzero],
    fun herr hrpm => by simp [payloadOf, herr, hrpm]⟩

end Sys2Proof.Machine
end

section
/-! Runs of ticks on a silent bus (spec/41_packet_capture.md sections 4 and 5; spec/70_reset_and_hazards.md section
3): the settle delay, the budget of a window, and the whole cycle that times out. -/

namespace Sys2Proof.Machine

/-! ### Runs -/

/-- A run is one run after another. -/
theorem steps_add_of_next {s t : State} {m : Nat} (n : Nat) (h : steps m s = .next t) :
    steps (m + n) s = steps n t := by
  induction m generalizing s with
  | zero =>
    cases h
    rw [Nat.zero_add]
  | succ m ih =>
    rw [Nat.succ_add]
    rw [steps] at h ⊢
    split at h
    · next u hu => exact ih h
    · cases h
    · cases h

/-- One more step at the end of a run. -/
theorem steps_succ_of_next {s t : State} {m : Nat} (h : steps m s = .next t) : steps (m + 1) s = step t := by
  rw [steps_add_of_next 1 h, steps]
  cases step t <;> rfl

theorem ticks_succ_append (n : Nat) (rest : List Event) : ticks (n + 1) ++ rest = .tick :: (ticks n ++ rest) := rfl

/-! ### The ticks that count down -/

/-- R123: with the frame indicator deasserted a tick loads the settle counter. -/
theorem step_tick_of_busIdle {s : State} {es : List Event} (hr : s.resetAsserted = false) (hc : s.capState = .busWait)
    (hf : s.frameActive = false) (hes : s.events = .tick :: es) :
    step s = .next { s with events := es, settleCnt := s.straps.settleTicks, capState := .settle } := by
  have htick : tickNext (s.setEvents es) = ((s.setEvents es).setSettle s.straps.settleTicks).goto .settle := by
    simp [tickNext, hc, hf]
  rw [step_tick hes hr, htick]
  rfl

/-- R124: a settle counter above 0 counts down. -/
theorem step_tick_of_settleWait {s : State} {es : List Event} {n : Nat} (hr : s.resetAsserted = false)
    (hc : s.capState = .settle) (hn : s.settleCnt = n + 1) (hes : s.events = .tick :: es) :
    step s = .next { s with events := es, settleCnt := n } := by
  have hz : s.settleDone = false := (settleDone_eq_false_iff s).2 (by omega)
  have htick : tickNext (s.setEvents es) = (s.setEvents es).setSettle n := by simp [tickNext, hc, hz, hn]
  rw [step_tick hes hr, htick]
  rfl

/-- R126: a settle counter at 0 opens the window. -/
theorem step_tick_of_settleDone {s : State} {es : List Event} (hr : s.resetAsserted = false) (hc : s.capState = .settle)
    (hn : s.settleCnt = 0) (hes : s.events = .tick :: es) :
    step s = .next { s with
      events := es, budgetCnt := s.straps.budgetTicks, samplerEn := true, capState := .capturing } := by
  have hz : s.settleDone = true := (settleDone_iff s).2 hn
  have htick : tickNext (s.setEvents es) =
      (((s.setEvents es).setBudget s.straps.budgetTicks).setGate true).goto .capturing := by
    simp [tickNext, hc, hz]
  rw [step_tick hes hr, htick]
  rfl

/-- R127: a budget above 0 counts down while the buffer is not full. -/
theorem step_tick_of_poll {s : State} {es : List Event} (hr : s.resetAsserted = false) (hc : s.capState = .capturing)
    (hcur : s.cursor.toNat ≠ s.expected) (hb : s.budgetCnt ≠ 0) (hes : s.events = .tick :: es) :
    step s = .next { s with events := es, budgetCnt := s.budgetCnt - 1 } := by
  have hk : s.captureFull = false := (captureFull_eq_false_iff s).2 hcur
  have hgone : s.budgetGone = false := (budgetGone_eq_false_iff s).2 hb
  have htick : tickNext (s.setEvents es) = (s.setEvents es).setBudget (s.budgetCnt - 1) := by
    simp [tickNext, hc, hk, hgone]
  rw [step_tick hes hr, htick]
  rfl

/-! ### The settle delay -/

/-- The settle counter counts down one a tick. -/
theorem steps_settle (n : Nat) {s : State} {rest : List Event} (hr : s.resetAsserted = false)
    (hc : s.capState = .settle) (hn : n ≤ s.settleCnt) (hes : s.events = ticks n ++ rest) :
    steps n s = .next { s with events := rest, settleCnt := s.settleCnt - n } := by
  induction n generalizing s with
  | zero =>
    obtain rfl : s.events = rest := hes
    rfl
  | succ n ih =>
    obtain ⟨m, hm⟩ := Nat.exists_eq_succ_of_ne_zero (Nat.ne_of_gt (Nat.lt_of_lt_of_le n.succ_pos hn))
    rw [steps_succ_of_step n (step_tick_of_settleWait hr hc hm hes)]
    refine (ih (s := { s with events := ticks n ++ rest, settleCnt := m }) hr hc ?_ rfl).trans ?_
    · exact Nat.le_of_succ_le_succ (hm ▸ hn)
    · rw [hm, Nat.succ_eq_add_one, Nat.add_sub_add_right]

/-- Settles O56: BUS_IDLE, as many SETTLE_WAITs as the strap says, ARM. -/
theorem settleDelayLastsItsTicks : Obligations.SettleDelayLastsItsTicks := by
  intro s rest hc hf hr hes
  have hload := step_tick_of_busIdle hr hc hf hes
  have hwait : ∀ n ≤ s.straps.settleTicks, steps (n + 1) s = .next { s with
      events := ticks (s.straps.settleTicks + 1 - n) ++ rest, settleCnt := s.straps.settleTicks - n,
      capState := .settle } := by
    intro n hn
    have hticks : ticks (s.straps.settleTicks + 1) ++ rest =
        ticks n ++ (ticks (s.straps.settleTicks + 1 - n) ++ rest) := by
      rw [← List.append_assoc, ticks, ticks, ticks, ← List.replicate_add]
      congr 2
      omega
    rw [steps_succ_of_step n hload]
    exact steps_settle n hr rfl hn hticks
  refine ⟨hwait, ?_⟩
  rw [steps_succ_of_next (hwait _ le_rfl), Nat.sub_self, Nat.add_sub_cancel_left]
  exact step_tick_of_settleDone hr rfl rfl rfl

/-! ### The budget -/

/-- The budget counts down one a tick. -/
theorem steps_poll (n : Nat) {s : State} {rest : List Event} (hr : s.resetAsserted = false)
    (hc : s.capState = .capturing) (hlt : s.cursor.toNat < s.expected) (hn : n ≤ s.budgetCnt)
    (hes : s.events = ticks n ++ rest) :
    steps n s = .next { s with events := rest, budgetCnt := s.budgetCnt - n } := by
  induction n generalizing s with
  | zero =>
    obtain rfl : s.events = rest := hes
    rfl
  | succ n ih =>
    rw [steps_succ_of_step n (step_tick_of_poll hr hc hlt.ne (by omega) hes)]
    refine (ih (s := { s with events := ticks n ++ rest, budgetCnt := s.budgetCnt - 1 }) hr hc hlt ?_ rfl).trans ?_
    · exact Nat.le_sub_of_add_le hn
    · rw [Nat.sub_sub, Nat.add_comm 1 n]

/-- A window with only ticks polls its whole budget and times out. -/
theorem steps_timeout {s : State} {rest : List Event} (hr : s.resetAsserted = false) (hc : s.capState = .capturing)
    (hlt : s.cursor.toNat < s.expected) (hes : s.events = ticks (s.budgetCnt + 1) ++ rest) :
    (∀ n ≤ s.budgetCnt, steps n s = .next { s with
      events := ticks (s.budgetCnt + 1 - n) ++ rest, budgetCnt := s.budgetCnt - n }) ∧
    steps (s.budgetCnt + 1) s = .next { s with
      events := rest, budgetCnt := 0, samplerEn := false, capState := .timedOut } := by
  have hpoll : ∀ n ≤ s.budgetCnt, steps n s = .next { s with
      events := ticks (s.budgetCnt + 1 - n) ++ rest, budgetCnt := s.budgetCnt - n } := by
    intro n hn
    refine steps_poll n hr hc hlt hn ?_
    rw [hes, ← List.append_assoc, ticks, ticks, ticks, ← List.replicate_add]
    congr 2
    omega
  refine ⟨hpoll, ?_⟩
  rw [steps_succ_of_next (hpoll _ le_rfl), Nat.sub_self, Nat.add_sub_cancel_left]
  exact step_tick_of_budgetGone hr hc hlt rfl rfl

/-! ### A whole cycle -/

/-- Settles O58: CYCLE_START, the settle delay, the timed-out window, TIMEOUT_REPORT. -/
theorem silentBusReportsATimeoutPerCycle : Obligations.SilentBusReportsATimeoutPerCycle := by
  intro s rest hc hf hr hgate hes
  have hsplit : ticks (s.straps.settleTicks + s.straps.budgetTicks + 5) ++ rest =
      .tick :: (ticks (s.straps.settleTicks + 2) ++ (ticks (s.straps.budgetTicks + 1) ++ (.tick :: rest))) := by
    have hlast : Event.tick :: rest = ticks 1 ++ rest := rfl
    rw [hlast, ← ticks_succ_append, ← List.append_assoc, ← List.append_assoc, ticks, ticks, ticks, ticks,
      ← List.replicate_add, ← List.replicate_add]
    congr 2
    omega
  have hlen : s.straps.settleTicks + s.straps.budgetTicks + 5 =
      (s.straps.settleTicks + 2) + ((s.straps.budgetTicks + 1) + 1) + 1 := by omega
  have hstart := step_tick_of_idle hr hc (hes.trans hsplit)
  have hsettle := (settleDelayLastsItsTicks { s with
    events := ticks (s.straps.settleTicks + 2) ++ (ticks (s.straps.budgetTicks + 1) ++ (.tick :: rest)),
    cursor := 0#7, buf := [], capState := .busWait } _ rfl hf hr rfl).2
  have htimeout := (steps_timeout (s := { s with
    events := ticks (s.straps.budgetTicks + 1) ++ (.tick :: rest), cursor := 0#7, buf := [], settleCnt := 0,
    budgetCnt := s.straps.budgetTicks, samplerEn := true, capState := .capturing }) hr rfl (expected_pos s) rfl).2
  have hreport := step_tick_of_timedOut (es := rest) (s := { s with
    events := .tick :: rest, cursor := 0#7, buf := [], settleCnt := 0, budgetCnt := 0, samplerEn := false,
    capState := .timedOut }) hr rfl rfl
  rw [hlen, steps_succ_of_step _ hstart, steps_add_of_next _ hsettle, steps_succ_of_next htimeout, hreport, hc, hgate]
  rfl

end Sys2Proof.Machine
end

section
/-! Runs of a capture window (spec/40_bit_sampler.md, the count law; spec/41_packet_capture.md section 5): what any
events of a window leave behind, how long a window lasts, and the packet it captures. -/

namespace Sys2Proof.Machine

/-! ### The edges among events -/

theorem edgeLevels_append (es fs : List Event) : edgeLevels (es ++ fs) = edgeLevels es ++ edgeLevels fs := by
  induction es with
  | nil => rfl
  | cons e es ih => cases e <;> simp [edgeLevels, ih]

/-! ### What the events of a window leave behind -/

/-- The sampler's window is open: capturing, gate open, out of reset, the cursor in range. -/
structure InWindow (s : State) : Prop where
  capturing : s.capState = .capturing
  gateOpen : s.samplerEn = true
  running : s.resetAsserted = false
  cursorInRange : CursorInRange s

/-- Buffer, cursor, budget, line levels and the schedule are all that an open window changes. -/
def SameWindow (s t : State) : Prop := t = { s with
  events := t.events, budgetCnt := t.budgetCnt, cursor := t.cursor, buf := t.buf, frameLine := t.frameLine,
  dataLine := t.dataLine }

theorem SameWindow.trans {s t u : State} (hst : SameWindow s t) (htu : SameWindow t u) : SameWindow s u :=
  Eq.trans htu (by rw [hst])

/-- `t` is `s` after the events `es` of its window, with `rest` still to come. -/
structure AfterWindow (s : State) (es rest : List Event) (t : State) : Prop where
  frame : SameWindow s t
  events : t.events = rest
  budget : t.budgetCnt = s.budgetCnt - es.count .tick
  cursor : t.cursor.toNat = min s.expected (s.cursor.toNat + (edgeLevels es).length)
  sampled : ∀ i, s.cursor.toNat + i < t.cursor.toNat →
    (edgeLevels es)[i]? = some (Memory.bit t.buf (s.cursor.toNat + i))
  untouched : ∀ a, a < s.cursor.toNat ∨ t.cursor.toNat ≤ a → Memory.byteAt t.buf a = Memory.byteAt s.buf a

theorem SameWindow.expected_eq {s t : State} (h : SameWindow s t) : t.expected = s.expected := by
  rw [h]
  rfl

theorem AfterWindow.inWindow {s t : State} {es rest : List Event} (hs : InWindow s) (h : AfterWindow s es rest t) :
    InWindow t where
  capturing := by rw [h.frame]; exact hs.capturing
  gateOpen := by rw [h.frame]; exact hs.gateOpen
  running := by rw [h.frame]; exact hs.running
  cursorInRange := by
    rw [CursorInRange, h.cursor, h.frame.expected_eq]
    exact min_le_left _ _

theorem afterWindow_nil {s : State} (hs : InWindow s) : AfterWindow s [] s.events s where
  frame := rfl
  events := rfl
  budget := rfl
  cursor := (min_eq_right hs.cursorInRange).symm
  sampled := by
    intro i hi
    omega
  untouched := fun _ _ => rfl

/-- An event that is no edge leaves buffer and cursor alone. -/
theorem AfterWindow.snoc_of_not_edge {s t u : State} {es rest : List Event} {e : Event}
    (h : AfterWindow s es (e :: rest) t) (hedge : edgeLevels [e] = []) (hframe : SameWindow t u)
    (hevents : u.events = rest) (hbudget : u.budgetCnt = t.budgetCnt - [e].count .tick) (hcursor : u.cursor = t.cursor)
    (hbuf : u.buf = t.buf) : AfterWindow s (es ++ [e]) rest u where
  frame := h.frame.trans hframe
  events := hevents
  budget := by rw [hbudget, h.budget, List.count_append, Nat.sub_sub]
  cursor := by rw [hcursor, h.cursor, edgeLevels_append, hedge, List.append_nil]
  sampled := by rw [hcursor, hbuf, edgeLevels_append, hedge, List.append_nil]; exact h.sampled
  untouched := by rw [hcursor, hbuf]; exact h.untouched

/-- An edge with the buffer full leaves buffer and cursor alone. -/
theorem AfterWindow.snoc_dropped {s t : State} {es rest : List Event} {l : Level}
    (h : AfterWindow s es (.clkFall l :: rest) t) (hfull : s.expected ≤ t.cursor.toNat) :
    AfterWindow s (es ++ [.clkFall l]) rest { t with events := rest, dataLine := l } where
  frame := h.frame.trans rfl
  events := rfl
  budget := by simp [h.budget]
  cursor := by
    have hcur := h.cursor
    simp only [edgeLevels_append, List.length_append]
    omega
  sampled := by
    intro i hi
    obtain ⟨hlt, -⟩ := List.getElem?_eq_some_iff.1 (h.sampled i hi)
    rw [edgeLevels_append, List.getElem?_append_left hlt]
    exact h.sampled i hi
  untouched := h.untouched

/-- An edge with a cell left stores its level behind those of the edges before it. -/
theorem AfterWindow.snoc_sampled {s t : State} {es rest : List Event} {l : Level}
    (h : AfterWindow s es (.clkFall l :: rest) t) (hroom : t.cursor.toNat < s.expected) :
    AfterWindow s (es ++ [.clkFall l]) rest
      { t with events := rest, dataLine := l, buf := t.sampledBuf l.isHigh, cursor := t.cursor + 1#7 } := by
  have hcur := h.cursor
  have hlen : t.cursor.toNat = s.cursor.toNat + (edgeLevels es).length := by omega
  have hsucc : (t.cursor + 1#7).toNat = t.cursor.toNat + 1 := cursor_succ_toNat (h.frame.expected_eq ▸ hroom)
  refine ⟨h.frame.trans rfl, rfl, by simp [h.budget], ?_, fun i hi => ?_, fun a ha => ?_⟩
  · simp only [edgeLevels_append, edgeLevels, List.length_append, List.length_singleton]
    omega
  · simp only [hsucc] at hi
    rw [edgeLevels_append]
    rcases Nat.lt_or_ge i (edgeLevels es).length with hold | hnew
    · rw [List.getElem?_append_left hold, h.sampled i (by omega)]
      exact congrArg some (Memory.bit_write_other _ (by omega)).symm
    · obtain rfl : i = (edgeLevels es).length := by omega
      rw [List.getElem?_append_right le_rfl, Nat.sub_self, ← hlen]
      exact congrArg some (sampledBuf_bit_cursor t l.isHigh).symm
  · simp only [hsucc] at ha
    exact (sampledBuf_byteAt_other t _ (by omega)).trans (h.untouched a (by omega))

/-- One more event: a tick that polls, an edge, a change of a line. -/
theorem AfterWindow.exists_step {s t : State} {es rest : List Event} {e : Event} (hs : InWindow s)
    (h : AfterWindow s es (e :: rest) t) (he : e.ofWindow = true)
    (hopen : e = .tick → t.cursor.toNat ≠ t.expected ∧ t.budgetCnt ≠ 0) :
    ∃ u, step t = .next u ∧ AfterWindow s (es ++ [e]) rest u := by
  obtain ⟨hc, hen, hr, -⟩ := h.inWindow hs
  cases e with
  | tick =>
    obtain ⟨hcur, hb⟩ := hopen rfl
    exact ⟨_, step_tick_of_poll hr hc hcur hb h.events, h.snoc_of_not_edge rfl rfl rfl rfl rfl rfl⟩
  | clkFall l =>
    rcases Nat.lt_or_ge t.cursor.toNat t.expected with hlt | hge
    · exact ⟨_, step_edge_of_room hr hen hlt h.events, h.snoc_sampled (h.frame.expected_eq ▸ hlt)⟩
    · exact ⟨_, step_edge_of_dropped hr (.inr hge) h.events, h.snoc_dropped (h.frame.expected_eq ▸ hge)⟩
  | frameLine l => exact ⟨_, step_frameLine h.events, h.snoc_of_not_edge rfl rfl rfl rfl rfl rfl⟩
  | dataLine l => exact ⟨_, step_dataLine h.events, h.snoc_of_not_edge rfl rfl rfl rfl rfl rfl⟩
  | reset b => cases he
  | eval c w => cases he

/-! ### Runs of a window -/

/-- The run over `es` stays in the window of `s` and leaves what `AfterWindow` says. -/
def WindowRun (s : State) (es rest : List Event) : Prop := ∃ t, steps es.length s = .next t ∧ AfterWindow s es rest t

theorem windowRun_nil {s : State} (hs : InWindow s) : WindowRun s [] s.events := ⟨s, rfl, afterWindow_nil hs⟩

/-- One more event of a run; its tick is a poll when budget and buffer say so. -/
theorem WindowRun.snoc {s : State} {es rest : List Event} {e : Event} (hs : InWindow s) (h : WindowRun s es (e :: rest))
    (he : e.ofWindow = true)
    (hopen : ∀ t, steps es.length s = .next t → AfterWindow s es (e :: rest) t → e = .tick →
      t.cursor.toNat ≠ t.expected ∧ t.budgetCnt ≠ 0) : WindowRun s (es ++ [e]) rest := by
  obtain ⟨t, hsteps, ht⟩ := h
  obtain ⟨u, hstep, hu⟩ := ht.exists_step hs he (hopen t hsteps ht)
  refine ⟨u, ?_, hu⟩
  rw [List.length_append, List.length_singleton, steps_succ_of_next hsteps, hstep]

/-- A run in which the edges leave a cell free and the ticks do not exceed the budget. -/
theorem windowRun_of_room {s : State} {es rest : List Event} (hs : InWindow s) (hes : s.events = es ++ rest)
    (he : ∀ e ∈ es, e.ofWindow = true) (hroom : s.cursor.toNat + (edgeLevels es).length < s.expected)
    (hbudget : es.count .tick ≤ s.budgetCnt) : WindowRun s es rest := by
  induction es using List.reverseRecOn generalizing rest with
  | nil =>
    obtain rfl : s.events = rest := hes
    exact windowRun_nil hs
  | append_singleton es e ih =>
    rw [edgeLevels_append, List.length_append] at hroom
    rw [List.count_append] at hbudget
    rw [List.append_assoc] at hes
    refine (ih hes (fun e he' => he e (List.mem_append_left _ he')) (by omega) (by omega)).snoc hs
      (he e (by simp)) fun t _ ht htick => ?_
    have hcur := ht.cursor
    have hb := ht.budget
    rw [ht.frame.expected_eq]
    rw [htick, List.count_singleton_self] at hbudget
    omega

/-- A run goes on over events without a tick. -/
theorem WindowRun.append_of_no_tick {s : State} {es fs rest : List Event} (hs : InWindow s)
    (h : WindowRun s es (fs ++ rest)) (hfs : ∀ e ∈ fs, e.ofWindow = true ∧ e ≠ .tick) :
    WindowRun s (es ++ fs) rest := by
  induction fs using List.reverseRecOn generalizing rest with
  | nil => rwa [List.append_nil]
  | append_singleton fs e ih =>
    rw [List.append_assoc] at h
    obtain ⟨he, hne⟩ := hfs e (by simp)
    rw [← List.append_assoc]
    exact (ih h fun e he' => hfs e (List.mem_append_left _ he')).snoc hs he fun _ _ _ htick => absurd htick hne

/-- A tick that leaves the window open is a poll. -/
theorem open_of_step_capturing {s u : State} {es : List Event} (hc : s.capState = .capturing)
    (hr : s.resetAsserted = false) (hes : s.events = .tick :: es) (h : step s = .next u)
    (hu : u.capState = .capturing) : s.cursor.toNat ≠ s.expected ∧ s.budgetCnt ≠ 0 := by
  rw [step_tick hes hr] at h
  cases h
  rw [tickNext_capState, tableState, setEvents_capState, hc] at hu
  rw [← captureFull_eq_false_iff, ← budgetGone_eq_false_iff]
  cases hk : s.captureFull with
  | true => simp [hk] at hu
  | false =>
    cases hb : s.budgetGone with
    | true => simp [hk, hb] at hu
    | false => exact ⟨rfl, rfl⟩

/-- A run in which the window is seen to stay open. -/
theorem windowRun_of_capturing {s : State} {es rest : List Event} (hs : InWindow s) (hes : s.events = es ++ rest)
    (he : ∀ e ∈ es, e.ofWindow = true)
    (hopen : ∀ n ≤ es.length, ∃ u, steps n s = .next u ∧ u.capState = .capturing) : WindowRun s es rest := by
  induction es using List.reverseRecOn generalizing rest with
  | nil =>
    obtain rfl : s.events = rest := hes
    exact windowRun_nil hs
  | append_singleton es e ih =>
    rw [List.length_append, List.length_singleton] at hopen
    rw [List.append_assoc] at hes
    refine (ih hes (fun e he' => he e (List.mem_append_left _ he')) fun n hn => hopen n (Nat.le_succ_of_le hn)).snoc hs
      (he e (by simp)) fun t hsteps ht htick => ?_
    obtain ⟨u, hu, hcapturing⟩ := hopen (es.length + 1) le_rfl
    rw [steps_succ_of_next hsteps] at hu
    subst htick
    have hwindow := ht.inWindow hs
    exact open_of_step_capturing hwindow.capturing hwindow.running ht.events hu hcapturing

/-- Settles O59: the count law is what any run of the window leaves behind. -/
theorem windowCountsAndKeepsItsEdges : Obligations.WindowCountsAndKeepsItsEdges := by
  intro s t es rest hc hen hr hcursor hes he hopen hsteps
  have hzero : s.cursor.toNat = 0 := by rw [hcursor]; rfl
  have hs : InWindow s := ⟨hc, hen, hr, hzero.trans_le (Nat.zero_le _)⟩
  obtain ⟨u, hu, hafter⟩ := windowRun_of_capturing hs hes he hopen
  cases hsteps.symm.trans hu
  obtain ⟨-, -, -, hcur, hsampled, -⟩ := hafter
  simp only [hzero, Nat.zero_add] at hcur hsampled
  exact ⟨hcur, hsampled⟩

/-! ### The length of a window -/

@[simp] theorem edgeNext_budgetCnt (s : State) : (edgeNext s).budgetCnt = s.budgetCnt := by rw [edgeNext_eq]
@[simp] theorem edgeNext_resetAsserted (s : State) : (edgeNext s).resetAsserted = s.resetAsserted := by rw [edgeNext_eq]

theorem OnlyAnswers.budgetCnt_eq {s t : State} (h : OnlyAnswers s t) : t.budgetCnt = s.budgetCnt := by rw [h]

theorem OnlyAnswers.resetAsserted_eq {s t : State} (h : OnlyAnswers s t) :
    t.resetAsserted = s.resetAsserted := by rw [h]

/-- While the block captures, the budget pays one for a tick and nothing for any other event. -/
theorem step_budget {s t : State} {e : Event} {es : List Event} (hc : s.capState = .capturing)
    (hr : s.resetAsserted = false) (hes : s.events = e :: es) (h : step s = .next t) (ht : t.capState = .capturing) :
    s.budgetCnt = [e].count .tick + t.budgetCnt ∧ t.resetAsserted = false := by
  have hnext := (nextEvent_of_cons hes).1
  rcases step_cases h with ⟨he, _⟩ | ⟨l, he, ⟨_, rfl⟩ | ⟨_, rfl⟩⟩ | ⟨l, he, rfl⟩ | ⟨l, he, rfl⟩ | ⟨_, rfl⟩ | ⟨he, rfl⟩ |
    ⟨c, w, he, ha⟩
  case inl =>
    obtain rfl : e = .tick := hnext.symm.trans he
    obtain ⟨hcur, hb⟩ := open_of_step_capturing hc hr hes h ht
    cases h.symm.trans (step_tick_of_poll hr hc hcur hb hes)
    exact ⟨by rw [List.count_singleton_self]; simp only; omega, hr⟩
  case inr.inr.inr.inr.inl => cases ht
  all_goals obtain rfl := hnext.symm.trans he
  · exact ⟨by simp, by simpa using hr⟩
  · exact ⟨by simp, by simpa using hr⟩
  · exact ⟨by simp, by simpa using hr⟩
  · exact ⟨by simp, by simpa using hr⟩
  · exact ⟨by simp, by simp⟩
  · exact ⟨by simp [ha.budgetCnt_eq], by simpa [ha.resetAsserted_eq] using hr⟩

/-- The budget pays for the ticks of a run that keeps capturing. -/
theorem steps_budget {s t : State} {es rest : List Event} (hr : s.resetAsserted = false) (hes : s.events = es ++ rest)
    (hopen : ∀ n ≤ es.length, ∃ u, steps n s = .next u ∧ u.capState = .capturing) (h : steps es.length s = .next t) :
    s.budgetCnt = es.count .tick + t.budgetCnt ∧ t.resetAsserted = false ∧ t.events = rest := by
  induction es using List.reverseRecOn generalizing t rest with
  | nil =>
    cases h
    exact ⟨by simp, hr, hes⟩
  | append_singleton es e ih =>
    rw [List.length_append, List.length_singleton] at hopen h
    rw [List.append_assoc] at hes
    obtain ⟨u, hu, huc⟩ := hopen es.length (Nat.le_succ _)
    obtain ⟨t', ht', htc⟩ := hopen (es.length + 1) le_rfl
    cases h.symm.trans ht'
    rw [steps_succ_of_next hu] at h
    obtain ⟨hpaid, hur, hevents⟩ := ih hes (fun n hn => hopen n (Nat.le_succ_of_le hn)) hu
    obtain ⟨hlast, htr⟩ := step_budget huc hur hevents h htc
    exact ⟨by rw [List.count_append]; omega, htr, (step_schedule_of_cons hevents h).1⟩

/-- Only a tick on a spent budget times a window out. -/
theorem budgetCnt_eq_zero_of_timedOut {s t : State} (hc : s.capState = .capturing) (h : step s = .next t)
    (ht : t.capState = .timedOut) : s.budgetCnt = 0 := by
  rcases step_of_capState_ne h (by rw [hc, ht]; nofun) with rfl | rfl
  · rw [tickNext_capState, tableState, afterEvent_capState, hc] at ht
    rw [← budgetGone_iff, ← afterEvent_budgetGone]
    cases hk : s.afterEvent.captureFull with
    | true => simp [hk] at ht
    | false =>
      cases hb : s.afterEvent.budgetGone with
      | true => rfl
      | false => simp [hk, hb] at ht
  · cases ht

/-- A window whose edges leave a cell free times out at the tick after its budget is spent. -/
theorem steps_timeout_of_room {s : State} {es rest : List Event} (hs : InWindow s)
    (hes : s.events = es ++ .tick :: rest) (he : ∀ e ∈ es, e.ofWindow = true)
    (hroom : s.cursor.toNat + (edgeLevels es).length < s.expected) (hbudget : es.count .tick = s.budgetCnt)
    {u : State} (hu : steps es.length s = .next u) :
    steps (es.length + 1) s = .next { u with
      events := rest, budgetCnt := 0, samplerEn := false, capState := .timedOut } := by
  obtain ⟨t, ht, hafter⟩ := windowRun_of_room hs hes he hroom hbudget.le
  cases hu.symm.trans ht
  have hwindow := hafter.inWindow hs
  have hcur := hafter.cursor
  have hspent : u.budgetCnt = 0 := by
    rw [hafter.budget]
    omega
  have htick := step_tick_of_budgetGone hwindow.running hwindow.capturing
    (by rw [hafter.frame.expected_eq]; omega) hspent hafter.events
  rw [steps_succ_of_next hu, htick, ← hspent]
  rfl

/-- Settles O57: the budget is paid out tick by tick, in any window, in one with a cell left, in one with ticks alone.
-/
theorem timedOutWindowSpendsItsBudget : Obligations.TimedOutWindowSpendsItsBudget := by
  refine ⟨fun s t es rest hc hr hes hopen hsteps ht => ?_, fun s es rest hc hen hr hes he hroom hbudget =>
    ⟨fun n hn => ?_, fun u => ?_⟩, fun s rest hc hlt hr hes => steps_timeout hr hc hlt hes⟩
  · obtain ⟨u, hu, huc⟩ := hopen es.length le_rfl
    rw [steps_succ_of_next hu] at hsteps
    rw [(steps_budget hr hes hopen hu).1, budgetCnt_eq_zero_of_timedOut huc hsteps ht, Nat.add_zero]
  · have hs : InWindow s := ⟨hc, hen, hr, by rw [CursorInRange]; omega⟩
    have hsplit := List.take_append_drop n es
    have hedges : (edgeLevels (es.take n)).length ≤ (edgeLevels es).length := by
      rw [← congrArg edgeLevels hsplit, edgeLevels_append, List.length_append]
      exact Nat.le_add_right _ _
    obtain ⟨u, hu, hafter⟩ := windowRun_of_room (es := es.take n) (rest := es.drop n ++ .tick :: rest) hs
      (by rw [← List.append_assoc, hsplit, hes]) (fun e he' => he e (List.mem_of_mem_take he')) (by omega)
      (((List.take_sublist n es).count_le _).trans hbudget.le)
    rw [List.length_take, Nat.min_eq_left hn] at hu
    refine ⟨u, hu, Eq.trans hafter.frame (by rw [hafter.events, hafter.budget]), ?_, hafter.untouched⟩
    rw [hafter.cursor]
    omega
  · exact steps_timeout_of_room ⟨hc, hen, hr, by rw [CursorInRange]; omega⟩ hes he hroom hbudget

/-! ### The packet of a window -/

/-- With the gate closed, edges and level changes touch the two lines alone. -/
theorem steps_of_gateClosed {s : State} {es rest : List Event} (hen : s.samplerEn = false)
    (hr : s.resetAsserted = false) (hes : s.events = es ++ rest) (he : ∀ e ∈ es, e.ofWindow = true ∧ e ≠ .tick) :
    ∃ f d, steps es.length s = .next { s with events := rest, frameLine := f, dataLine := d } := by
  induction es generalizing s with
  | nil =>
    obtain rfl : s.events = rest := hes
    exact ⟨s.frameLine, s.dataLine, rfl⟩
  | cons e es ih =>
    obtain ⟨hwindow, hne⟩ := he e List.mem_cons_self
    have hstep : ∃ f d, step s = .next { s with events := es ++ rest, frameLine := f, dataLine := d } := by
      cases e with
      | tick => exact absurd rfl hne
      | clkFall l => exact ⟨_, _, step_edge_of_dropped hr (.inl hen) hes⟩
      | frameLine l => exact ⟨_, _, step_frameLine hes⟩
      | dataLine l => exact ⟨_, _, step_dataLine hes⟩
      | reset b => cases hwindow
      | eval c w => cases hwindow
    obtain ⟨f, d, hstep⟩ := hstep
    obtain ⟨f', d', hsteps⟩ := ih (s := { s with events := es ++ rest, frameLine := f, dataLine := d }) hen hr rfl
      fun e he' => he e (List.mem_cons_of_mem _ he')
    exact ⟨f', d', (steps_succ_of_step _ hstep).trans hsteps⟩

theorem packetCells_length (k : Packet) : (packetCells k).length = 68 := by simp [packetCells, wireBits]

/-- A window that has taken all its bits holds their levels. -/
theorem AfterWindow.cells_eq {s t : State} {es rest : List Event} {bits late : List Bool} (h : AfterWindow s es rest t)
    (hcursor : s.cursor.toNat = 0) (hedges : edgeLevels es = bits ++ late) (hlen : bits.length = s.expected) :
    t.cursor.toNat = s.expected ∧ t.cells = bits := by
  have hfull : t.cursor.toNat = s.expected := by
    rw [h.cursor, hedges, List.length_append, hlen, hcursor]
    omega
  refine ⟨hfull, List.ext_getElem? fun i => ?_⟩
  rw [State.cells, h.frame.expected_eq, List.getElem?_map]
  rcases Nat.lt_or_ge i s.expected with hi | hi
  · have hsampled := h.sampled i (by omega)
    rw [hcursor, Nat.zero_add, hedges, List.getElem?_append_left (by omega)] at hsampled
    rw [List.getElem?_range hi, Option.map_some, hsampled]
  · rw [List.getElem?_eq_none (by simpa using hi), List.getElem?_eq_none (by omega), Option.map_none]

/-- Settles O60: the window takes the packet and whatever edges and level changes follow; the first tick closes it,
the second reports the reading of the buffer, which is the packet's. -/
theorem packetInTheWindowYieldsItsReading : Obligations.PacketInTheWindowYieldsItsReading := by
  intro s hdr d1 d2 d3 u x v y w stop es late gap rest l hc hen hr hcursor hhdr hes he hquiet hedges hbudget
  have hzero : s.cursor.toNat = 0 := by rw [hcursor]; rfl
  have hs : InWindow s := ⟨hc, hen, hr, hzero.trans_le (Nat.zero_le _)⟩
  have hlen := congrArg List.length hedges
  rw [List.length_append, List.length_append, packetCells_length, hhdr, ← expected_eq, List.length_singleton] at hlen
  have hpacket : WindowRun s (es ++ [.clkFall l] ++ late) (.tick :: (gap ++ .tick :: rest)) :=
    ((windowRun_of_room hs hes he (by omega) hbudget).snoc hs rfl fun _ _ _ => nofun).append_of_no_tick hs
      fun e he' => hquiet e (List.mem_append_left _ he')
  obtain ⟨t, hsteps, hafter⟩ := hpacket
  obtain ⟨hfull, hcells⟩ := hafter.cells_eq (late := edgeLevels late) hzero
    (by rw [edgeLevels_append, edgeLevels_append, edgeLevels, edgeLevels, hedges])
    (by rw [List.length_append, packetCells_length, hhdr, expected_eq])
  have hwindow := hafter.inWindow hs
  have hclose := step_tick_of_captureFull hwindow.running hwindow.capturing
    (hfull.trans hafter.frame.expected_eq.symm) hafter.events
  obtain ⟨f, d, hgap⟩ := steps_of_gateClosed (rest := .tick :: rest)
    (s := { t with events := gap ++ .tick :: rest, samplerEn := false, capState := .complete }) rfl hwindow.running rfl
    fun e he' => hquiet e (List.mem_append_right _ he')
  have hreport := step_tick_of_complete (es := rest)
    (s := { t with
      events := .tick :: rest, samplerEn := false, capState := .complete, frameLine := f, dataLine := d })
    hwindow.running rfl rfl
  have hstraps : t.straps = s.straps := by rw [hafter.frame]
  have hreports : t.reports = s.reports := by rw [hafter.frame]
  have hsettle : t.settleCnt = s.settleCnt := by rw [hafter.frame]
  have hnotick : late.count .tick = 0 :=
    List.count_eq_zero.2 fun hmem => (hquiet _ (List.mem_append_left _ hmem)).2 rfl
  have hrecord : resolveCells t.cells t.header = readingReport d1.val d2.val d3.val stop := by
    rw [hcells, header_eq_of_straps_eq hstraps, ← hhdr, (readsPacket_append hdr _).resolveCells_eq,
      packetReport_acceptedPacket]
  have hrun := (steps_add_of_next (gap.length + 1 + 1) hsteps).trans
    ((steps_succ_of_step (gap.length + 1) hclose).trans ((steps_succ_of_next hgap).trans hreport))
  have hcount : (es ++ [Event.clkFall l] ++ late).length + (gap.length + 1 + 1) =
      es.length + late.length + gap.length + 3 := by
    simp only [List.length_append, List.length_singleton]
    omega
  rw [hcount] at hrun
  refine ⟨_, hrun, ?_, rfl, rfl, hfull, rfl, ?_, hsettle, hstraps, rfl⟩
  · exact (congrArg (t.reports ++ [·]) hrecord).trans (by rw [hreports, readingReport_eq])
  · exact hafter.budget.trans (by simp [hnotick])

end Sys2Proof.Machine
end
